-- ==== Sys2Proof/Word.lean ====
section
/-! DEFINITION. The byte and word types of the part (spec 00, *Words and bursts*: a word is 32 bits; a
byte address is 24 bits wide, a word address on IA23-IA2 is 22 bits). -/

namespace Sys2Proof

/-- One byte of a link frame. -/
abbrev Byte := BitVec 8

/-- One word of the initiator bus or the target bus. -/
abbrev Word := BitVec 32

/-- A byte address of the 16 MiB address space. -/
abbrev Addr := BitVec 24

/-- A word address as IA23-IA2 carry it. -/
abbrev WordAddr := BitVec 22

/-- R113: the byte address is the word address followed by two zero bits. -/
def byteAddr (a : WordAddr) : Addr := a ++ (0 : BitVec 2)

end Sys2Proof
end

