-- ==== Sys2Proof/Config.lean ====
section
/-! DEFINITION. What one LW632 fixes (the numbers of the spec), and the inputs that nothing in the part
decides, as free values without a body. -/

namespace Sys2Proof.Config

/-- R131: the posted write queue holds at most 4 entries. -/
def queueDepth : Nat := 4

/-- R23: the wait list holds at most 8 entries. -/
def waitListDepth : Nat := 8

/-- R45: the length of a tick at timebase setting `k`, in reference periods. -/
def tickLength (k : Nat) : Nat := 2 ^ (6 + k)

/-- R45: the timebase setting after power-on. -/
def powerOnTimebase : Nat := 4

/-- R2: the power-on quotas of P0 to P5. -/
def powerOnQuotas : Vector Nat 6 := #v[32, 8, 8, 8, 8, 8]

/-- R110: the power-on priority levels of P0 to P5. -/
def powerOnLevels : Vector (Fin 4) 6 := #v[3, 1, 1, 1, 1, 1]

/-- R111: the power-on hold limit of every port (0: no hold timer). -/
def powerOnHold : Nat := 0

/-- R111: the power-on grace of every port. -/
def powerOnGrace : Nat := 8

/-- R165: the level of LDOn where no byte of a frame is driven: high, so that such a byte reads FFH. -/
def idleLevel : Bool := true

/-- The level of TRDY at the n-th reference period: a free value. The target devices decide it and the
spec says nothing of when they raise it (R135; log 3). -/
opaque trdy : Nat → Bool

/-- The word on TD31-TD0 at the n-th reference period of a target read: a free value, as `trdy`. -/
opaque targetWord : Nat → Word

end Sys2Proof.Config
end

