-- ==== Sys2Proof/Syntax.lean ====
section
/-! DEFINITION. The commands of the part: one constructor of `Instr` for each row of
spec/opcode_table.json, with the operands the spec gives it; and the requests that link frames carry
(R173 to R175), which are the operands of the rows that a block takes from a command in hand. -/

namespace Sys2Proof

/-- A port P0 to P5 (spec 00, *Ports*). -/
abbrev Port := Fin 6

/-- The index of a directory entry, 00H to 1FH (R1). -/
abbrev EntryIx := Fin 32

/-- A target T0 to T3. -/
abbrev TargetIx := Fin 4

/-- One of the two ticket slots of a port (R24). -/
abbrev Slot := Fin 2

/-- The supervisor port (R177). -/
def supervisorPort : Port := 0

/-- A handle as a frame carries it: index byte, generation byte (R172). The index byte may be above
1FH; the block that takes the command refuses it then (R8). -/
structure RawHandle where
  index : Byte
  generation : Byte
deriving DecidableEq, Repr

/-- The argument bytes of CONFIGURE_TARGET (R174). -/
structure TargetArgs where
  target : Byte
  base : BitVec 16
  count : BitVec 16
  waitStates : Byte
  readyTimeout : BitVec 16
  term : BitVec 16
  probeEnable : Byte
  probeAddress : Addr
  signature : Word
deriving DecidableEq, Repr

/-- A command with its arguments as its frame carries them (R175). Nothing has been tested for range:
the owning block does that when it takes the command. -/
inductive Request where
  | openLease (base count : BitVec 16) (cls wait : Byte) (limit : BitVec 16)
  | renew (h : RawHandle) (n : Byte)
  | close (h : RawHandle)
  | park (h : RawHandle)
  | unpark (h : RawHandle)
  | reshape (h : RawHandle) (base count : BitVec 16) (cls : Byte)
  | status (h : RawHandle)
  | ackRevoke (h : RawHandle)
  | cancel (slot : Byte)
  | ticketRead (slot : Byte)
  | attention
  | faultRead
  | configureTarget (args : TargetArgs)
  | releaseTarget (target : Byte)
  | targetStatus (target : Byte)
  | setQuota (port quota : Byte)
  | setPriority (port level : Byte)
  | setHold (port : Byte) (hold : BitVec 16) (grace : Byte)
  | setTimebase (k : Byte)
  | revoke (h : RawHandle)
  | purgeHandle (h : RawHandle)
  | purgePort (port : Byte)
  | directoryClear
  | portReset (port : Byte)
  | directoryRead (index : Byte)
deriving DecidableEq, Repr

/-- The burst lengths that IBL1-IBL0 code (R113). -/
inductive Burst where
  | w1 | w2 | w4 | w8
deriving DecidableEq, Repr

/-- The number of words of a burst. -/
def Burst.words : Burst → Nat
  | .w1 => 1
  | .w2 => 2
  | .w4 => 4
  | .w8 => 8

/-- A whole access (R113): a read with its burst length, or a write with the words the initiator
presented, in the order of R114. -/
inductive Access where
  | read (burst : Burst)
  | write (burst : Burst) (data : List Word)
deriving DecidableEq, Repr

/-- The levels of the inputs that R184 names, at the release of RESET. `istb` is there because R184
names it; it has no effect ("not taken as an access"). -/
structure Levels where
  lselLow : Vector Bool 6
  prstLow : Vector Bool 6
  trqHigh : Vector Bool 6
  istbHigh : Bool
deriving DecidableEq, Repr

/-- The commands: the rows of spec/opcode_table.json, in its order. A row that a block takes from a
command in hand carries the port whose command in hand it is (the supervisor commands: none, for it is
always P0's, R177), and has its arguments from there (log 19). -/
inductive Instr where
  /-- POWER_ON (R183): RESET is held low. -/
  | powerOn
  /-- RESET_RELEASE (R184): RESET goes high with the inputs at these levels. -/
  | resetRelease (levels : Levels)
  /-- PRST_LOW (R88): PRSTn is found low; `selected` says whether LSELn is low then (a transfer is
  under way, R168). -/
  | prstLow (p : Port) (selected : Bool)
  /-- PRST_RELEASE (R88): PRSTn returns high. -/
  | prstRelease (p : Port)
  /-- REQUEST_TRANSFER (R165, R167): a request transfer ends; `first` are the bits sampled on LDIn up to the
  end of its first byte and `rest` those after it, one for each clock, in their order. The part groups them
  into bytes as one run. -/
  | requestTransfer (p : Port) (first rest : List Bool)
  /-- READ_TRANSFER (R165, R169): a read transfer ends; it had `clocks` clocks after its first byte,
  `beforeCut` of them before a reset that reached the transfer, if one did. -/
  | readTransfer (p : Port) (clocks beforeCut : Nat)
  /-- OPEN (R26 to R31): the grant unit takes the OPEN in hand at `p`. -/
  | openLease (p : Port)
  /-- RENEW (R55). -/
  | renew (p : Port)
  /-- CLOSE (R73). -/
  | close (p : Port)
  /-- PARK (R61). -/
  | park (p : Port)
  /-- UNPARK (R65). -/
  | unpark (p : Port)
  /-- RESHAPE (R67). -/
  | reshape (p : Port)
  /-- STATUS (R21). -/
  | status (p : Port)
  /-- ACK_REVOKE (R84). -/
  | ackRevoke (p : Port)
  /-- CANCEL (R39). -/
  | cancel (p : Port)
  /-- TICKET_READ (R41). -/
  | ticketRead (p : Port)
  /-- ATTENTION (R180): the port link unit takes an ATTENTION frame with this tag. -/
  | attention (p : Port) (tag : Byte)
  /-- FAULT_READ (R129): the port link unit takes a FAULT_READ frame with this tag. -/
  | faultRead (p : Port) (tag : Byte)
  /-- CONFIGURE_TARGET (R153). -/
  | configureTarget
  /-- RELEASE_TARGET (R157). -/
  | releaseTarget
  /-- TARGET_STATUS (R164). -/
  | targetStatus
  /-- SET_QUOTA (R18). -/
  | setQuota
  /-- SET_PRIORITY (R110). -/
  | setPriority
  /-- SET_HOLD (R111). -/
  | setHold
  /-- SET_TIMEBASE (R46). -/
  | setTimebase
  /-- REVOKE (R79). -/
  | revoke
  /-- PURGE in its handle form (R85). -/
  | purgeHandle
  /-- PURGE in its port form (R86). -/
  | purgePort
  /-- DIRECTORY_CLEAR (R81). -/
  | directoryClear
  /-- PORT_RESET (R88). -/
  | portReset
  /-- DIRECTORY_READ (R22). -/
  | directoryRead
  /-- TICK (R45): the tick divider reaches the tick length. -/
  | tick
  /-- TERM_BOUNDARY (R50, R52, R53): the countdown of entry `i` reaches zero. -/
  | termBoundary (i : EntryIx)
  /-- WAIT_EXPIRED (R37): the wait limit of the request behind this ticket expires. -/
  | waitExpired (p : Port) (slot : Slot)
  /-- HOLD_EXPIRY (R103): the owner's hold timer reaches zero. -/
  | holdExpiry
  /-- PREEMPTION (R106): the grace timer of a YIELDING owner reaches zero. -/
  | preemption
  /-- TRQ_RISE (R97). -/
  | trqRise (p : Port)
  /-- TRQ_FALL (R100). -/
  | trqFall (p : Port)
  /-- ACCESS (R116): the access checker takes a whole access. -/
  | access (a : WordAddr) (x : Access)
  /-- BROKEN_WRITE (R113): ISTB falls when only `presented` words of a write were presented. -/
  | brokenWrite (a : WordAddr) (burst : Burst) (presented : Nat)
  /-- STALLED_WRITE_ADMISSION (R122): the stalled write is admitted into a free queue place. -/
  | stalledWriteAdmission
  /-- ACCESS_START (R134): the engine chooses its next access and starts it. -/
  | accessStart
  /-- WRITE_COMPLETION (R139). -/
  | writeCompletion
  /-- READ_COMPLETION (R140): `data` are the words the target gave that the read buffer does not yet
  hold, in the order of R114. -/
  | readCompletion (data : List Word)
  /-- PROBE_COMPLETION (R155): `w` is the word the target gave. -/
  | probeCompletion (w : Word)
  /-- WRITE_TIMEOUT (R142): `taken` more words were taken by the target before the timeout (R136). -/
  | writeTimeout (taken : Nat)
  /-- READ_TIMEOUT (R143): `taken` more words were given by the target before the timeout (R136). -/
  | readTimeout (taken : Nat)
  /-- PROBE_TIMEOUT (R144). -/
  | probeTimeout
  /-- CLOSING_DRAIN_END (R74). -/
  | closingDrainEnd (i : EntryIx)
  /-- REVOKING_DRAIN_END (R77). -/
  | revokingDrainEnd (i : EntryIx)
  /-- FIRST_BYTE_CLOCKED (R169): the first byte of a transfer has been clocked in. -/
  | firstByteClocked (p : Port) (b : Byte)
deriving DecidableEq, Repr

/-- Who brings a command about (INVENTORY.md, *Agents*). -/
inductive Source where
  | lines      -- RESET, PRSTn, TRQn
  | link       -- a transfer on a port's link
  | block      -- a block takes a command in hand
  | timer      -- the term timers, the grant unit's and the arbiter's timers
  | bus        -- an access on the initiator bus
  | engine     -- the access path: checker and target engine
  | directory  -- the end of a drain
deriving DecidableEq, Repr

/-- The source of each command. -/
def Instr.source : Instr → Source
  | .powerOn => .lines
  | .resetRelease _ => .lines
  | .prstLow _ _ => .lines
  | .prstRelease _ => .lines
  | .requestTransfer _ _ _ => .link
  | .readTransfer _ _ _ => .link
  | .openLease _ => .block
  | .renew _ => .block
  | .close _ => .block
  | .park _ => .block
  | .unpark _ => .block
  | .reshape _ => .block
  | .status _ => .block
  | .ackRevoke _ => .block
  | .cancel _ => .block
  | .ticketRead _ => .block
  | .attention _ _ => .link
  | .faultRead _ _ => .link
  | .configureTarget => .block
  | .releaseTarget => .block
  | .targetStatus => .block
  | .setQuota => .block
  | .setPriority => .block
  | .setHold => .block
  | .setTimebase => .block
  | .revoke => .block
  | .purgeHandle => .block
  | .purgePort => .block
  | .directoryClear => .block
  | .portReset => .block
  | .directoryRead => .block
  | .tick => .timer
  | .termBoundary _ => .timer
  | .waitExpired _ _ => .timer
  | .holdExpiry => .timer
  | .preemption => .timer
  | .trqRise _ => .lines
  | .trqFall _ => .lines
  | .access _ _ => .bus
  | .brokenWrite _ _ _ => .bus
  | .stalledWriteAdmission => .engine
  | .accessStart => .engine
  | .writeCompletion => .engine
  | .readCompletion _ => .engine
  | .probeCompletion _ => .engine
  | .writeTimeout _ => .engine
  | .readTimeout _ => .engine
  | .probeTimeout => .engine
  | .closingDrainEnd _ => .directory
  | .revokingDrainEnd _ => .directory
  | .firstByteClocked _ _ => .link

end Sys2Proof
end

