-- ==== Sys2Proof/Decode.lean ====
section
/-! DEFINITION. Bits, bytes and requests. spec/opcode_table.json gives no bits for any row, so
`decodeTableWord` spells no command. What the part does decode is a link frame (R165, R167, R172 to R175):
the grouping of bits into bytes, the frame tests, the opcode table and the argument layouts are here, with
the encoder of a request. -/

namespace Sys2Proof

/-- The table gives bits for no row: no word spells a command. -/
def decodeTableWord (_nbits _w : Nat) : Option Instr := none

/-! Bits of a link: R165, eight to a byte, most significant bit first. -/

/-- R165: the whole bytes of the bits of a transfer. Bits left over at its end are dropped. -/
def bytesOf : List Bool → List Byte
  | b7 :: b6 :: b5 :: b4 :: b3 :: b2 :: b1 :: b0 :: rest =>
    BitVec.ofBoolListBE [b7, b6, b5, b4, b3, b2, b1, b0] :: bytesOf rest
  | _ => []

/-- R165, R167: a part byte is dropped at the end of the transfer. -/
def partByte (bits : List Bool) : Bool := bits.length % 8 != 0

/-- R165: the bits of one byte, in the order in which they pass. -/
def byteBits (b : Byte) : List Bool :=
  [b.getLsbD 7, b.getLsbD 6, b.getLsbD 5, b.getLsbD 4, b.getLsbD 3, b.getLsbD 2, b.getLsbD 1, b.getLsbD 0]

/-- R165: the bits of a frame, in the order in which they pass. -/
def bitsOf (frame : List Byte) : List Bool := frame.flatMap byteBits

/-! Byte order: R172, a field of more than one byte is sent most significant byte first. -/

/-- A 16-bit field as bytes. -/
def bytes16 (x : BitVec 16) : List Byte := [x.extractLsb' 8 8, x.extractLsb' 0 8]

/-- A 24-bit field as bytes. -/
def bytes24 (x : BitVec 24) : List Byte := [x.extractLsb' 16 8, x.extractLsb' 8 8, x.extractLsb' 0 8]

/-- A 32-bit field as bytes. -/
def bytes32 (x : BitVec 32) : List Byte :=
  [x.extractLsb' 24 8, x.extractLsb' 16 8, x.extractLsb' 8 8, x.extractLsb' 0 8]

/-- A small number as one byte. -/
def byteOf (n : Nat) : Byte := BitVec.ofNat 8 n

/-- A number below 65536 as two bytes. -/
def word16 (n : Nat) : List Byte := bytes16 (BitVec.ofNat 16 n)

/-- Two bytes as a field. -/
def join16 (a b : Byte) : BitVec 16 := a ++ b

/-- Three bytes as a field. -/
def join24 (a b c : Byte) : BitVec 24 := a ++ b ++ c

/-- Four bytes as a field. -/
def join32 (a b c d : Byte) : BitVec 32 := a ++ b ++ c ++ d

/-- R176: the status codes of a response. -/
inductive Status where
  | none | ok | queued | badFrame | badCommand | badArgument | notPermitted
  | staleHandle | notHolder | wrongState | tooLate | inFlight | creditFull
  | conflict | waitlistFull | ticketsFull | directoryFull | quota | inUse
  | unmapped | targetDown | notReady | targetBusy | overlap
deriving DecidableEq, Repr

/-- The code byte of each status (R176). -/
def Status.code : Status → Byte
  | .none => 0x00
  | .ok => 0x01
  | .queued => 0x02
  | .badFrame => 0x10
  | .badCommand => 0x11
  | .badArgument => 0x12
  | .notPermitted => 0x13
  | .staleHandle => 0x20
  | .notHolder => 0x21
  | .wrongState => 0x22
  | .tooLate => 0x23
  | .inFlight => 0x24
  | .creditFull => 0x25
  | .conflict => 0x30
  | .waitlistFull => 0x31
  | .ticketsFull => 0x32
  | .directoryFull => 0x33
  | .quota => 0x34
  | .inUse => 0x35
  | .unmapped => 0x40
  | .targetDown => 0x41
  | .notReady => 0x42
  | .targetBusy => 0x43
  | .overlap => 0x44

/-- The opcodes of R175. -/
inductive Opcode where
  | openLease | renew | close | park | unpark | reshape | status | ackRevoke | cancel | ticketRead
  | attention | faultRead | configureTarget | releaseTarget | targetStatus | setQuota | setPriority
  | setHold | setTimebase | revoke | purge | directoryClear | portReset | directoryRead
deriving DecidableEq, Repr

/-- R175: the opcode a byte codes, if any. -/
def Opcode.ofByte (b : Byte) : Option Opcode :=
  match b.toNat with
  | 0x01 => some .openLease
  | 0x02 => some .renew
  | 0x03 => some .close
  | 0x04 => some .park
  | 0x05 => some .unpark
  | 0x06 => some .reshape
  | 0x07 => some .status
  | 0x08 => some .ackRevoke
  | 0x09 => some .cancel
  | 0x0A => some .ticketRead
  | 0x0B => some .attention
  | 0x0C => some .faultRead
  | 0x20 => some .configureTarget
  | 0x21 => some .releaseTarget
  | 0x22 => some .targetStatus
  | 0x23 => some .setQuota
  | 0x24 => some .setPriority
  | 0x25 => some .setHold
  | 0x26 => some .setTimebase
  | 0x27 => some .revoke
  | 0x28 => some .purge
  | 0x29 => some .directoryClear
  | 0x2A => some .portReset
  | 0x2B => some .directoryRead
  | _ => Option.none

/-- R175: the byte of each opcode. -/
def Opcode.byte : Opcode → Byte
  | .openLease => 0x01
  | .renew => 0x02
  | .close => 0x03
  | .park => 0x04
  | .unpark => 0x05
  | .reshape => 0x06
  | .status => 0x07
  | .ackRevoke => 0x08
  | .cancel => 0x09
  | .ticketRead => 0x0A
  | .attention => 0x0B
  | .faultRead => 0x0C
  | .configureTarget => 0x20
  | .releaseTarget => 0x21
  | .targetStatus => 0x22
  | .setQuota => 0x23
  | .setPriority => 0x24
  | .setHold => 0x25
  | .setTimebase => 0x26
  | .revoke => 0x27
  | .purge => 0x28
  | .directoryClear => 0x29
  | .portReset => 0x2A
  | .directoryRead => 0x2B

/-- R175, R177: opcodes 20H to 2BH are the supervisor commands. -/
def Opcode.supervisor (o : Opcode) : Bool := decide (0x20 ≤ o.byte.toNat)

/-- R173 to R175: the request that an opcode and its argument bytes make; none if the argument length
is not one that R175 gives for the opcode. -/
def decodeArgs : Opcode → List Byte → Option Request
  | .openLease, [b1, b0, c1, c0, cls, wait, l1, l0] =>
    some (.openLease (join16 b1 b0) (join16 c1 c0) cls wait (join16 l1 l0))
  | .renew, [i, g, n] => some (.renew ⟨i, g⟩ n)
  | .close, [i, g] => some (.close ⟨i, g⟩)
  | .park, [i, g] => some (.park ⟨i, g⟩)
  | .unpark, [i, g] => some (.unpark ⟨i, g⟩)
  | .reshape, [i, g, b1, b0, c1, c0, cls] =>
    some (.reshape ⟨i, g⟩ (join16 b1 b0) (join16 c1 c0) cls)
  | .status, [i, g] => some (.status ⟨i, g⟩)
  | .ackRevoke, [i, g] => some (.ackRevoke ⟨i, g⟩)
  | .cancel, [slot] => some (.cancel slot)
  | .ticketRead, [slot] => some (.ticketRead slot)
  | .attention, [] => some .attention
  | .faultRead, [] => some .faultRead
  | .configureTarget, [t, b1, b0, c1, c0, w, r1, r0, i1, i0, e, a2, a1, a0, g3, g2, g1, g0] =>
    some (.configureTarget ⟨t, join16 b1 b0, join16 c1 c0, w, join16 r1 r0, join16 i1 i0, e,
      join24 a2 a1 a0, join32 g3 g2 g1 g0⟩)
  | .releaseTarget, [t] => some (.releaseTarget t)
  | .targetStatus, [t] => some (.targetStatus t)
  | .setQuota, [p, q] => some (.setQuota p q)
  | .setPriority, [p, l] => some (.setPriority p l)
  | .setHold, [p, h1, h0, g] => some (.setHold p (join16 h1 h0) g)
  | .setTimebase, [k] => some (.setTimebase k)
  | .revoke, [i, g] => some (.revoke ⟨i, g⟩)
  | .purge, [i, g] => some (.purgeHandle ⟨i, g⟩)
  | .purge, [p] => some (.purgePort p)
  | .directoryClear, [] => some .directoryClear
  | .portReset, [p] => some (.portReset p)
  | .directoryRead, [i] => some (.directoryRead i)
  | _, _ => Option.none

/-- R167: the four frame tests, in their order, on a frame that arrived on the link of port `p`;
`part` says that a part byte was dropped at its end. Either the refusal's status, or the request
that goes to its block. -/
def decodeFrame (p : Port) (part : Bool) : List Byte → Except Status Request
  | op :: _ :: len :: args =>
    if part || args.length != len.toNat then .error .badFrame
    else match Opcode.ofByte op with
      | Option.none => .error .badCommand
      | some o =>
        if o.supervisor && p != supervisorPort then .error .notPermitted
        else match decodeArgs o args with
          | Option.none => .error .badArgument
          | some r => .ok r
  | _ => .error .badFrame

/-- R167: the tag of a frame, 00H when it has fewer than two bytes. -/
def frameTag : List Byte → Byte
  | _ :: tag :: _ => tag
  | _ => 0

/-- The opcode of a request (R175). -/
def Request.opcode : Request → Opcode
  | .openLease .. => .openLease
  | .renew .. => .renew
  | .close .. => .close
  | .park .. => .park
  | .unpark .. => .unpark
  | .reshape .. => .reshape
  | .status .. => .status
  | .ackRevoke .. => .ackRevoke
  | .cancel .. => .cancel
  | .ticketRead .. => .ticketRead
  | .attention => .attention
  | .faultRead => .faultRead
  | .configureTarget .. => .configureTarget
  | .releaseTarget .. => .releaseTarget
  | .targetStatus .. => .targetStatus
  | .setQuota .. => .setQuota
  | .setPriority .. => .setPriority
  | .setHold .. => .setHold
  | .setTimebase .. => .setTimebase
  | .revoke .. => .revoke
  | .purgeHandle .. => .purge
  | .purgePort .. => .purge
  | .directoryClear => .directoryClear
  | .portReset .. => .portReset
  | .directoryRead .. => .directoryRead

/-- The two bytes of a handle (R172). -/
def RawHandle.bytes (h : RawHandle) : List Byte := [h.index, h.generation]

/-- The argument bytes of a request (R173 to R175). -/
def Request.argBytes : Request → List Byte
  | .openLease base count cls wait limit =>
    bytes16 base ++ bytes16 count ++ [cls, wait] ++ bytes16 limit
  | .renew h n => h.bytes ++ [n]
  | .close h => h.bytes
  | .park h => h.bytes
  | .unpark h => h.bytes
  | .reshape h base count cls => h.bytes ++ bytes16 base ++ bytes16 count ++ [cls]
  | .status h => h.bytes
  | .ackRevoke h => h.bytes
  | .cancel slot => [slot]
  | .ticketRead slot => [slot]
  | .attention => []
  | .faultRead => []
  | .configureTarget a =>
    [a.target] ++ bytes16 a.base ++ bytes16 a.count ++ [a.waitStates] ++ bytes16 a.readyTimeout ++
      bytes16 a.term ++ [a.probeEnable] ++ bytes24 a.probeAddress ++ bytes32 a.signature
  | .releaseTarget t => [t]
  | .targetStatus t => [t]
  | .setQuota p q => [p, q]
  | .setPriority p l => [p, l]
  | .setHold p h g => [p] ++ bytes16 h ++ [g]
  | .setTimebase k => [k]
  | .revoke h => h.bytes
  | .purgeHandle h => h.bytes
  | .purgePort p => [p]
  | .directoryClear => []
  | .portReset p => [p]
  | .directoryRead i => [i]

/-- R172: the request frame of a request, with a tag of the initiator's choice. -/
def encodeRequest (tag : Byte) (r : Request) : List Byte :=
  [r.opcode.byte, tag, byteOf r.argBytes.length] ++ r.argBytes

end Sys2Proof
end

