-- ==== Sys2Proof/Machine/State.lean ====
section
/-! DEFINITION. Everything the spec gives the part to hold, as plain data, block by block (INVENTORY.md,
*State*), with the values of power-on and of reset. -/

namespace Sys2Proof.Machine

/-! ### Leases (01, 03, 05) -/

/-- R3: the class of a lease. -/
inductive LeaseClass where
  | sharedRead | exclusive
deriving DecidableEq, Repr

/-- R16: why a lease was revoked. -/
inductive RevokeReason where
  | expired | supervisor | targetLost | cleared | portReset
deriving DecidableEq, Repr

/-- R1: a base page and a page count. -/
structure Window where
  base : Nat
  count : Nat
deriving DecidableEq, Repr

/-- R5: what the conflict relation looks at: target, window and class. -/
structure Claim where
  target : TargetIx
  window : Window
  cls : LeaseClass
deriving DecidableEq, Repr

/-- R1: a handle, which names one grant of one entry. -/
structure Handle where
  index : EntryIx
  generation : Byte
deriving DecidableEq, Repr

/-- The states of an entry that is not FREE, each with the fields that only it has: the revoke reason
(R16), the release-on-drain indicator of a REVOKING entry (R77). -/
inductive LeaseState where
  | held
  | parked
  | closing
  | revoking (reason : RevokeReason) (releaseOnDrain : Bool)
  | revoked (reason : RevokeReason)
deriving DecidableEq, Repr

/-- R14: the marks set. -/
structure Marks where
  expiryNear : Bool := false
  revoked : Bool := false
  writeLost : Bool := false
deriving DecidableEq, Repr

/-- The fields of an entry that is not FREE (R1). `boundaryDue` is the model's: the tick that brings the
running countdown to zero has been produced and is not yet taken (R45; log 4). -/
structure Lease where
  state : LeaseState
  holder : Port
  claim : Claim
  balance : Int
  interval : Nat
  boundaryDue : Bool
  outstanding : Nat
  marks : Marks
deriving DecidableEq, Repr

/-- R1: one of the 32 entries; FREE is the absence of a lease, and then its outstanding count is 0 and
its marks set empty. The generation is always present. -/
structure Entry where
  generation : Byte
  lease : Option Lease
deriving DecidableEq, Repr

/-! ### Tickets and the wait list (02) -/

/-- R24: why a request left the wait list without a grant. -/
inductive RefuseReason where
  | waitExpired | targetDown | cleared
deriving DecidableEq, Repr

/-- R24: a ticket record. `unused` is NONE. -/
inductive Ticket where
  | unused
  | waiting
  | granted (h : Handle)
  | refused (r : RefuseReason)
deriving DecidableEq, Repr

/-- R23: an entry of the wait list. `due` is the model's, as `Lease.boundaryDue`. -/
structure Waiter where
  port : Port
  slot : Slot
  claim : Claim
  remaining : Option Nat
  due : Bool
deriving DecidableEq, Repr

/-! ### Fault records (07) -/

/-- R127: the direction of an access. -/
inductive Dir where
  | read | write
deriving DecidableEq, Repr

/-- R128: the fault reasons. -/
inductive FaultReason where
  | noLease | readOnly | leaseParked | leaseRetiring | unmapped | targetDown
  | targetTimeout | badBurst | preempted | writeLost | notOwner
deriving DecidableEq, Repr

/-- R127: a fault with its byte address and direction, handle and target, where present. -/
structure AccessFault where
  reason : FaultReason
  access : Option (Addr × Dir)
  handle : Option Handle
  target : Option TargetIx
deriving DecidableEq, Repr

/-- R127: a fault record; it is valid when it holds a fault. -/
structure FaultRecord where
  fault : Option AccessFault
  further : Bool
deriving DecidableEq, Repr

/-! ### Port link units (10) -/

/-- R172: a response frame. -/
structure Response where
  tag : Byte
  status : Status
  results : List Byte
deriving DecidableEq, Repr

/-- R73, R74: a CLOSE that has been taken and waits on the drain of this entry; `found` is the
outstanding count the entry had when the CLOSE was taken. -/
structure ClosePending where
  index : EntryIx
  found : Nat
deriving DecidableEq, Repr

/-- R166: the command in hand, its opcode within `request`. It has been taken by its block only when it
is a CLOSE that waits (R170). -/
structure InHand where
  tag : Byte
  request : Request
  closing : Option ClosePending
deriving DecidableEq, Repr

/-- R166: the link state with what is present in it. -/
inductive LinkState where
  | idle
  | command (c : InHand)
  | responseReady (r : Response)
deriving DecidableEq, Repr

/-- R165, R168, R169: the transfer under way on a link. A read transfer keeps the frame it chose (none:
the empty frame) and whether a reset has cut it. -/
inductive Transfer where
  | idle
  | request (first : Byte)
  | read (chosen : Option Response) (cut : Bool)
  | ignored
deriving DecidableEq, Repr

/-- A port link unit. `driven` are the levels presented on LDOn, one for each clock, in the last transfer
that ended and had a whole byte (log 13). -/
structure LinkUnit where
  link : LinkState
  overrun : Bool
  transfer : Transfer
  driven : List Bool
  prstLow : Bool
  tickets : Vector Ticket 2
  fault : FaultRecord
deriving DecidableEq, Repr

/-! ### Term timers (03) -/

/-- R45, R46: the tick divider. -/
structure Clock where
  count : Nat
  k : Nat
  pendingK : Option Nat
deriving DecidableEq, Repr

/-! ### Bus arbiter (06) -/

/-- R95: the requester states. -/
inductive Requester where
  | idle | waiting | owner | yielding | preempted
deriving DecidableEq, Repr

/-- R96: the bus states. -/
inductive BusState where
  | free
  | owned (p : Port)
  | handover
deriving DecidableEq, Repr

/-- A tick-counted timer of the arbiter (R47). `due` is the model's, as `Lease.boundaryDue`. -/
structure Timer where
  count : Nat
  running : Bool
  due : Bool
deriving DecidableEq, Repr

/-- What the arbiter holds for a port: requester state, settings, and the level of TRQn. -/
structure Requesting where
  req : Requester
  level : Fin 4
  hold : Nat
  grace : Nat
  trq : Bool
deriving DecidableEq, Repr

/-- R99: the hold limit and grace in force for the grant. -/
structure InForce where
  hold : Nat
  grace : Nat
deriving DecidableEq, Repr

/-- The arbiter's state. -/
structure Arbiter where
  ports : Vector Requesting 6
  bus : BusState
  pointers : Vector Port 4
  recent : Option Port
  inForce : Option InForce
  holdTimer : Timer
  graceTimer : Timer
  overdue : Bool
deriving DecidableEq, Repr

/-! ### Access checker and target engine (07, 08) -/

/-- R131: a posted write; also the stalled write, which has the same fields (R121). -/
structure PostedWrite where
  handle : Handle
  port : Port
  target : TargetIx
  address : Addr
  burst : Burst
  data : List Word
deriving DecidableEq, Repr

/-- R132: the pending read. `deliver` is the return indicator. -/
structure PendingRead where
  handle : Handle
  port : Port
  target : TargetIx
  address : Addr
  burst : Burst
  deliver : Bool
  buffer : List Word
deriving DecidableEq, Repr

/-- R133: a probe read; `captured` is the word the engine has captured for it (R135). -/
structure Probe where
  address : Addr
  captured : Option Word
deriving DecidableEq, Repr

/-- R130: which holding the current access is of. -/
inductive Holding where
  | write
  | read
  | probe (t : TargetIx)
deriving DecidableEq, Repr

/-- R135, R136: where the current access stands in its reference periods. -/
inductive Phase where
  | setup
  | word (waitLeft samplesLeft : Nat)
  | ending (timedOut : Bool)
deriving DecidableEq, Repr

/-- R130, R135: the current access, the number of its words taken, and the three values read from the
target's record at its start. -/
structure Current where
  holding : Holding
  taken : Nat
  phase : Phase
  waitStates : Nat
  readyTimeout : Nat
  base : Nat
deriving DecidableEq, Repr

/-- The model's record of the last access that ended on the target bus: the words before a timed-out
word have been taken by the target (R136). -/
structure AccessEnd where
  holding : Holding
  target : TargetIx
  address : Addr
  taken : Nat
  timedOut : Bool
deriving DecidableEq, Repr

/-- What the part drove on the initiator bus at the end of a cycle: IACK pulses, IERR, and the words the
spec states for ID31-ID0. -/
structure BusAnswer where
  acks : Nat
  ierr : Bool
  words : List Word
deriving DecidableEq, Repr

/-! ### Target controller (09) -/

/-- R148: the states of a target. -/
inductive TargetState where
  | unconfigured | probing | ready | suspect | offline
deriving DecidableEq, Repr

/-- R148: the last fault of a target. -/
inductive LastFault where
  | none | accessTimeout | probeMismatch | probeTimeout
deriving DecidableEq, Repr

/-- R148: probe address and expected signature, present when the probe is enabled. -/
structure ProbeSetting where
  address : Addr
  signature : Word
deriving DecidableEq, Repr

/-- R148: the settings of a target record. The probe is enabled when `probe` is present. -/
structure Settings where
  span : Window
  waitStates : Nat
  readyTimeout : Nat
  term : Nat
  probe : Option ProbeSetting
deriving DecidableEq, Repr

/-- R148: a target record. -/
structure TargetRecord where
  state : TargetState
  settings : Option Settings
  probeResult : Option Word
  timeouts : Nat
  lastFault : LastFault
deriving DecidableEq, Repr

/-! ### The whole part -/

/-- The reasons a step could stop with a fault. No rule of the spec stops the part and no meaning raises
one (INVENTORY.md, *Faults*). -/
inductive Fault where
  /-- Raised by nothing; it only gives the type a name. Safe. -/
  | stuck
deriving DecidableEq, Repr

/-- The reasons a command is refused. -/
inductive Refusal where
  /-- Raised by an arm of `exec` that has no meaning yet; there is none. Safe. -/
  | notModelled (mnemonic : String)
  /-- Raised by the meanings of REQUEST_TRANSFER, READ_TRANSFER, ACCESS and BROKEN_WRITE on a term that
  is no command of the part (`Instr.wellFormed` is false; log 10). Safe. -/
  | illFormed
deriving DecidableEq, Repr

/-- The state of the part, and the queue of the commands that wait. -/
structure State where
  resetLow : Bool
  entries : Vector Entry 32
  quotas : Vector Nat 6
  waitList : List Waiter
  links : Vector LinkUnit 6
  clock : Clock
  arb : Arbiter
  stalled : Option PostedWrite
  answer : Option BusAnswer
  queue : List PostedWrite
  read : Option PendingRead
  probes : Vector (Option Probe) 4
  current : Option Current
  lastEnd : Option AccessEnd
  targets : Vector TargetRecord 4
  periods : Nat
  pending : List Instr
deriving DecidableEq, Repr

/-- R2: an entry after power-on. -/
def Entry.powerOn : Entry := { generation := 0, lease := none }

/-- R127: an invalid fault record. -/
def FaultRecord.invalid : FaultRecord := { fault := none, further := false }

/-- R166, R24, R127: a port link unit after power-on, with no transfer under way and PRSTn high. -/
def LinkUnit.powerOn : LinkUnit :=
  { link := .idle, overrun := false, transfer := .idle, driven := [], prstLow := false,
    tickets := Vector.replicate 2 .unused, fault := FaultRecord.invalid }

/-- R45: the tick divider after power-on. -/
def Clock.powerOn : Clock := { count := 0, k := Config.powerOnTimebase, pendingK := none }

/-- R47, R103: a timer that has reached zero and is stopped there. -/
def Timer.stopped : Timer := { count := 0, running := false, due := false }

/-- R95, R110, R111: what the arbiter holds for a port after power-on, with TRQn low. -/
def Requesting.powerOn (level : Fin 4) : Requesting :=
  { req := .idle, level := level, hold := Config.powerOnHold, grace := Config.powerOnGrace, trq := false }

/-- R95, R96, R98, R110, R111: the arbiter after power-on. DESIGN CHOICE (log 27): R95 stops the hold and
grace timers and gives them no count; the model has both at 0. -/
def Arbiter.powerOn : Arbiter :=
  { ports := #v[Requesting.powerOn Config.powerOnLevels[0], Requesting.powerOn Config.powerOnLevels[1],
      Requesting.powerOn Config.powerOnLevels[2], Requesting.powerOn Config.powerOnLevels[3],
      Requesting.powerOn Config.powerOnLevels[4], Requesting.powerOn Config.powerOnLevels[5]]
    bus := .free
    pointers := Vector.replicate 4 5
    recent := none
    inForce := none
    holdTimer := Timer.stopped
    graceTimer := Timer.stopped
    overdue := false }

/-- R148: a target record after power-on. -/
def TargetRecord.powerOn : TargetRecord :=
  { state := .unconfigured, settings := none, probeResult := none, timeouts := 0, lastFault := .none }

/-- The part after power-on with RESET released and every input inactive (log 8): the values that each
chapter gives for power-on. -/
def State.reset : State :=
  { resetLow := false
    entries := Vector.replicate 32 Entry.powerOn
    quotas := Config.powerOnQuotas
    waitList := []
    links := Vector.replicate 6 LinkUnit.powerOn
    clock := Clock.powerOn
    arb := Arbiter.powerOn
    stalled := none
    answer := none
    queue := []
    read := none
    probes := Vector.replicate 4 none
    current := none
    lastEnd := none
    targets := Vector.replicate 4 TargetRecord.powerOn
    periods := 0
    pending := [] }

/-- R183: the part while RESET is held low: every block holds its power-on values. -/
def State.inReset : State := { State.reset with resetLow := true }

end Sys2Proof.Machine
end

