-- ==== Sys2Proof/Machine/Operands.lean ====
section
/-! DEFINITION. The operand forms: what the bytes of a frame and the address of an access name, with the
range tests that several rules share. -/

namespace Sys2Proof.Machine

/-- A byte that must be below `n`, as an index (R8, R18, R39, R150, R164: above the range is
BAD_ARGUMENT). -/
def indexOf (n : Nat) (b : Byte) : Option (Fin n) :=
  if h : b.toNat < n then some ⟨b.toNat, h⟩ else none

/-- R20, R26: the class codes. -/
def classOf (b : Byte) : Option LeaseClass :=
  if b = 0x01 then some .sharedRead else if b = 0x02 then some .exclusive else none

/-- R26: the WAIT flag. -/
def waitFlagOf (b : Byte) : Option Bool :=
  if b = 0x00 then some false else if b = 0x01 then some true else none

/-- R3, R26, R150: a base page and a page count of 1 to `most` whose last page does not pass FFFH. -/
def windowOf (most : Nat) (base count : BitVec 16) : Option Window :=
  if 1 ≤ count.toNat ∧ count.toNat ≤ most ∧ base.toNat + count.toNat ≤ 0x1000 then
    some { base := base.toNat, count := count.toNat }
  else none

/-- R3: the last page of a window. -/
def Window.last (w : Window) : Nat := w.base + w.count - 1

/-- A page lies in a window. -/
def Window.hasPage (w : Window) (page : Nat) : Bool := decide (w.base ≤ page ∧ page ≤ w.last)

/-- R27: a window lies wholly inside a span. -/
def Window.inside (w span : Window) : Bool := decide (span.base ≤ w.base ∧ w.last ≤ span.last)

/-- R5: two page ranges overlap when each one's base page is no greater than the other's last page. -/
def Window.overlaps (a b : Window) : Bool := decide (a.base ≤ b.last ∧ b.base ≤ a.last)

/-- R5: the conflict relation. -/
def Claim.conflicts (a b : Claim) : Bool :=
  a.target == b.target && a.window.overlaps b.window && (a.cls == .exclusive || b.cls == .exclusive)

/-- R113: the page of an access is the upper 12 bits of its byte address. -/
def pageOf (a : Addr) : Nat := (a.extractLsb' 12 12).toNat

/-- R114: the base of the burst block of a byte address. -/
def blockBase (b : Burst) (a : Addr) : Nat := a.toNat - a.toNat % (4 * b.words)

/-- R114: the byte address of the k-th word transferred: from the addressed word, ascending, wrapping
inside the block. -/
def burstWord (b : Burst) (a : Addr) (k : Nat) : Addr :=
  BitVec.ofNat 24 (blockBase b a + (a.toNat % (4 * b.words) + 4 * k) % (4 * b.words))

/-- R135: a byte address less 4096 times the span's base page. -/
def targetOffset (base : Nat) (a : Addr) : Addr := BitVec.ofNat 24 (a.toNat - 4096 * base)

/-- The burst length of an access. -/
def accessBurst : Access → Burst
  | .read b => b
  | .write b _ => b

/-- The direction of an access (R113). -/
def accessDir : Access → Dir
  | .read _ => .read
  | .write _ _ => .write

/-- The zero words that a read ended in error places on ID31-ID0 (R116, R143). -/
def zeroWords (n : Nat) : List Word := List.replicate n 0

/-- R150: the settings and target number of a CONFIGURE_TARGET whose fields are all in range. -/
def settingsOf (a : TargetArgs) : Option (TargetIx × Settings) :=
  match indexOf 4 a.target, windowOf 4096 a.base a.count with
  | some t, some span =>
    if a.waitStates.toNat ≤ 15 ∧ 16 ≤ a.readyTimeout.toNat ∧ a.readyTimeout.toNat ≤ 4096 ∧
        a.readyTimeout.toNat % 16 = 0 ∧ a.term.toNat ≠ 0 then
      let off : Settings :=
        { span := span
          waitStates := a.waitStates.toNat
          readyTimeout := a.readyTimeout.toNat
          term := a.term.toNat
          probe := none }
      if a.probeEnable = 0x00 then some (t, off)
      else if a.probeEnable = 0x01 ∧ a.probeAddress.toNat % 4 = 0 ∧
          span.hasPage (pageOf a.probeAddress) = true then
        some (t, { off with probe := some { address := a.probeAddress, signature := a.signature } })
      else none
    else none
  | _, _ => none

end Sys2Proof.Machine
end

