-- ==== Sys2Proof/Machine/Ops.lean ====
section
/-! DEFINITION. The named operations that the meanings share: reading and updating each record, the
directory's tests, the grant and the scan, responses, faults, revocation and the end of a drain, the
engine's choice. A part of a step that another rule's step contains is written here once. -/

namespace Sys2Proof.Machine

/-! ### The records -/

/-- The outcome type of the meanings. -/
abbrev Outcome := Host.Outcome State Fault Refusal

/-- Every entry, lowest index first. -/
def allEntries : List EntryIx :=
  [0, 1, 2, 3, 4, 5, 6, 7, 8, 9, 10, 11, 12, 13, 14, 15, 16, 17, 18, 19, 20, 21, 22, 23, 24, 25, 26, 27,
    28, 29, 30, 31]

/-- Every port, in ascending order. -/
def allPorts : List Port := [0, 1, 2, 3, 4, 5]

/-- Every target, lowest number first. -/
def allTargets : List TargetIx := [0, 1, 2, 3]

/-- Apply a function to every record of a table. -/
def vmap {α : Type} {n : Nat} (f : α → α) (v : Vector α n) : Vector α n :=
  ⟨⟨v.toList.map f⟩, by simp⟩

/-- An entry of the directory. -/
def State.entry (s : State) (i : EntryIx) : Entry := s.entries[i]

/-- Replace an entry. -/
def State.setEntry (s : State) (i : EntryIx) (e : Entry) : State :=
  { s with entries := s.entries.set i e }

/-- The lease of an entry; none in FREE. -/
def State.lease (s : State) (i : EntryIx) : Option Lease := (s.entry i).lease

/-- Replace the lease of an entry and keep its generation (R7: it changes at grant only). -/
def State.setLease (s : State) (i : EntryIx) (l : Option Lease) : State :=
  s.setEntry i { s.entry i with lease := l }

/-- A port link unit. -/
def State.link (s : State) (p : Port) : LinkUnit := s.links[p]

/-- Replace a port link unit. -/
def State.setLink (s : State) (p : Port) (u : LinkUnit) : State :=
  { s with links := s.links.set p u }

/-- Set a ticket record of a port (R24). -/
def State.setTicket (s : State) (p : Port) (k : Slot) (t : Ticket) : State :=
  s.setLink p { s.link p with tickets := (s.link p).tickets.set k t }

/-- A ticket record of a port. -/
def State.ticket (s : State) (p : Port) (k : Slot) : Ticket := (s.link p).tickets[k]

/-- A target record. -/
def State.target (s : State) (t : TargetIx) : TargetRecord := s.targets[t]

/-- Replace a target record. -/
def State.setTarget (s : State) (t : TargetIx) (r : TargetRecord) : State :=
  { s with targets := s.targets.set t r }

/-- The quota of a port. -/
def State.quota (s : State) (p : Port) : Nat := s.quotas[p]

/-- The probe slot of a target. -/
def State.probe (s : State) (t : TargetIx) : Option Probe := s.probes[t]

/-- Replace the probe slot of a target. -/
def State.setProbe (s : State) (t : TargetIx) (x : Option Probe) : State :=
  { s with probes := s.probes.set t x }

/-- R183: while RESET is held low nothing else is taken; else the command acts. -/
def whenLive (s : State) (f : State → State) : Outcome :=
  .next (if s.resetLow then s else f s)

/-! ### Targets and spans -/

/-- R29, R117: the target is READY or SUSPECT. -/
def TargetState.inService : TargetState → Bool
  | .ready => true
  | .suspect => true
  | _ => false

/-- R149: the span of a target in the map; none for an UNCONFIGURED target. -/
def State.span (s : State) (t : TargetIx) : Option Window :=
  match (s.target t).state with
  | .unconfigured => none
  | _ => (s.target t).settings.map (·.span)

/-- R27: the target in the map whose span holds the whole window. -/
def State.targetOfWindow (s : State) (w : Window) : Option TargetIx :=
  allTargets.find? fun t => (s.span t).any w.inside

/-- R117: the target in the map whose span holds the page. -/
def State.targetOfPage (s : State) (page : Nat) : Option TargetIx :=
  allTargets.find? fun t => (s.span t).any (·.hasPage page)

/-- The settings of a target. A target that a lease, an access or a probe names has settings (R4, R133);
for a target without any the zeros stand in for a read that no rule makes. -/
def State.settings (s : State) (t : TargetIx) : Settings :=
  ((s.target t).settings).getD
    { span := { base := 0, count := 0 }, waitStates := 0, readyTimeout := 0, term := 0, probe := none }

/-! ### Leases -/

/-- R4: HELD, PARKED, CLOSING and REVOKING occupy. -/
def Lease.occupying (l : Lease) : Bool :=
  match l.state with
  | .revoked _ => false
  | _ => true

/-- R48: the countdown runs while the entry is HELD or PARKED. -/
def Lease.running (l : Lease) : Bool :=
  match l.state with
  | .held => true
  | .parked => true
  | _ => false

/-- CLOSING or REVOKING. -/
def Lease.draining (l : Lease) : Bool :=
  match l.state with
  | .closing => true
  | .revoking _ _ => true
  | _ => false

/-- The marks set is not empty. -/
def Marks.any (m : Marks) : Bool := m.expiryNear || m.revoked || m.writeLost

/-- R73, R77: where a drained CLOSING or REVOKING entry goes; none is FREE. -/
def Lease.drained (l : Lease) : Option Lease :=
  match l.state with
  | .closing => none
  | .revoking r releaseOnDrain =>
    if r = .portReset ∨ releaseOnDrain = true then none
    else some { l with state := .revoked r, marks := { l.marks with revoked := true } }
  | _ => some l

/-- R77: a lease that leaves HELD or PARKED to drain: the countdown stops; with nothing outstanding it
goes on at once. -/
def Lease.beginDrain (l : Lease) (st : LeaseState) : Option Lease :=
  let l1 : Lease := { l with state := st, boundaryDue := false }
  if l.outstanding = 0 then l1.drained else some l1

/-- R77: the revocation of a HELD or PARKED lease. -/
def Lease.revoke (r : RevokeReason) (l : Lease) : Option Lease := l.beginDrain (.revoking r false)

/-- R5, R29, R34, R70: the claim conflicts with an occupying entry other than `except`. -/
def State.conflictsOccupying (s : State) (except : Option EntryIx) (c : Claim) : Bool :=
  allEntries.any fun i =>
    some i != except && (s.lease i).any fun l => l.occupying && l.claim.conflicts c

/-- R6: the lowest-numbered FREE entry. -/
def State.freeEntry (s : State) : Option EntryIx := allEntries.find? fun i => (s.lease i).isNone

/-- The number of entries whose lease satisfies `f`. -/
def State.countLeases (s : State) (f : Lease → Bool) : Nat :=
  allEntries.countP fun i => (s.lease i).any f

/-- R17: the number of a port's WAITING tickets. -/
def State.waitingTickets (s : State) (p : Port) : Nat :=
  ([0, 1] : List Slot).countP fun k => s.ticket p k == .waiting

/-- R17: the charge of a port. -/
def State.charge (s : State) (p : Port) : Nat :=
  s.countLeases (fun l => l.holder == p) + s.waitingTickets p

/-- R151, R164: the number of occupying entries that name a target. -/
def State.occupants (s : State) (t : TargetIx) : Nat :=
  s.countLeases fun l => l.occupying && l.claim.target == t

/-- R164: the number of wait-list entries for a target. -/
def State.waitersFor (s : State) (t : TargetIx) : Nat :=
  s.waitList.countP fun w => w.claim.target == t

/-- R6: the handle that the next grant of an entry gives. -/
def State.nextHandle (s : State) (i : EntryIx) : Handle :=
  { index := i, generation := (s.entry i).generation + 1 }

/-- R6: the grant of entry `i` to a port. -/
def grantLease (i : EntryIx) (p : Port) (c : Claim) (s : State) : State :=
  s.setEntry i
    { generation := (s.entry i).generation + 1
      lease := some
        { state := .held, holder := p, claim := c, balance := 0
          interval := (s.settings c.target).term, boundaryDue := false
          outstanding := 0, marks := {} } }

/-! ### The scan -/

/-- R34, conditions 1 to 3: target in service, no conflict with an occupying entry, none with an older
entry still waiting. -/
def State.scanGrantable (s : State) (older : List Waiter) (w : Waiter) : Bool :=
  (s.target w.claim.target).state.inService && !s.conflictsOccupying none w.claim &&
    !older.any fun o => o.claim.conflicts w.claim

/-- R35: the grant of a waiting request in entry `i`, with its ticket. -/
def grantWaiter (i : EntryIx) (w : Waiter) (s : State) : State :=
  (grantLease i w.port w.claim s).setTicket w.port w.slot (.granted (s.nextHandle i))

/-- R34: the walk from head to tail; `kept` are the older entries still waiting, newest first. -/
def scanFrom : List Waiter → List Waiter → State → State
  | [], kept, s => { s with waitList := kept.reverse }
  | w :: rest, kept, s =>
    match (if s.scanGrantable kept w then s.freeEntry else none) with
    | some i => scanFrom rest kept (grantWaiter i w s)
    | none => scanFrom rest (w :: kept) s

/-- R34: one scan of the wait list. -/
def scan (s : State) : State := scanFrom s.waitList [] s

/-- R33: one scan after all the changes of a step, if one of them calls for it. -/
def scanIf (b : Bool) (s : State) : State := if b then scan s else s

/-- R42, R43: the waiting requests picked by `f` are refused. -/
def refuseWaiters (f : Waiter → Bool) (r : RefuseReason) (s : State) : State :=
  (s.waitList.filter f).foldl (fun s w => s.setTicket w.port w.slot (.refused r))
    { s with waitList := s.waitList.filter fun w => !f w }

/-- R23: the wait-list entry of a ticket. -/
def State.waiterAt (s : State) (p : Port) (k : Slot) : Option Waiter :=
  s.waitList.find? fun w => w.port == p && w.slot == k

/-- R23: the position of a ticket's entry. -/
def State.position (s : State) (p : Port) (k : Slot) : Nat :=
  s.waitList.findIdx fun w => w.port == p && w.slot == k

/-- R37, R39: a ticket's entry leaves the wait list. -/
def dropWaiter (p : Port) (k : Slot) (s : State) : State :=
  { s with waitList := s.waitList.filter fun w => !(w.port == p && w.slot == k) }

/-! ### Responses -/

/-- R167: the command that a port link unit has handed on and that its block has not taken. -/
def State.handed (s : State) (p : Port) : Option Request :=
  match (s.link p).link with
  | .command c =>
    match c.closing with
    | none => some c.request
    | some _ => none
  | _ => none

/-- R170: the response to the command in hand of a port; nothing is placed when a port reset has dropped
the command. -/
def respond (p : Port) (st : Status) (results : List Byte) (s : State) : State :=
  match (s.link p).link with
  | .command c =>
    s.setLink p { s.link p with
      link := .responseReady { tag := c.tag, status := st, results := results } }
  | _ => s

/-- R73: the CLOSE in hand of a port stays there until entry `i` is FREE. -/
def holdClose (p : Port) (i : EntryIx) (found : Nat) (s : State) : State :=
  match (s.link p).link with
  | .command c =>
    s.setLink p { s.link p with link := .command { c with closing := some { index := i, found := found } } }
  | _ => s

/-- R74: the CLOSE of entry `i` is answered, if it is still in hand at the port. -/
def answerClose (p : Port) (i : EntryIx) (endCode : Byte) (s : State) : State :=
  match (s.link p).link with
  | .command c =>
    match c.closing with
    | some w => if w.index = i then respond p .ok [byteOf w.found, endCode] s else s
    | none => s
  | _ => s

/-! ### Faults and the answer on the initiator bus -/

/-- R128: a fault is kept if the record is invalid; else only the further flag is set. -/
def FaultRecord.enter (r : FaultRecord) (f : AccessFault) : FaultRecord :=
  match r.fault with
  | none => { fault := some f, further := false }
  | some _ => { r with further := true }

/-- R128: a fault is entered in a port's fault record. -/
def enterFault (p : Port) (f : AccessFault) (s : State) : State :=
  s.setLink p { s.link p with fault := (s.link p).fault.enter f }

/-- What the part drives as a cycle ends. -/
def answerBus (a : BusAnswer) (s : State) : State := { s with answer := some a }

/-- R116: IERR, with zero words for a read. -/
def BusAnswer.error (words : List Word) : BusAnswer := { acks := 0, ierr := true, words := words }

/-- R128: the fault of a posted or stalled write. -/
def PostedWrite.fault (w : PostedWrite) (r : FaultReason) : AccessFault :=
  { reason := r, access := some (w.address, .write), handle := some w.handle, target := some w.target }

/-- R128: the fault of an owner read. -/
def PendingRead.fault (x : PendingRead) (r : FaultReason) : AccessFault :=
  { reason := r, access := some (x.address, .read), handle := some x.handle, target := some x.target }

/-- R122: the stalled write is refused: IERR, a fault, and it is never queued. -/
def refuseStalled (r : FaultReason) (s : State) : State :=
  match s.stalled with
  | none => s
  | some w => answerBus (.error []) (enterFault w.port (w.fault r) { s with stalled := none })

/-- R122: the stalled write is refused if entry `i` is its selected entry. -/
def refuseStalledUnder (i : EntryIx) (r : FaultReason) (s : State) : State :=
  match s.stalled with
  | none => s
  | some w => if w.handle.index = i then refuseStalled r s else s

/-- R122: the stalled write is refused if it waits for target `t`. -/
def refuseStalledFor (t : TargetIx) (s : State) : State :=
  match s.stalled with
  | none => s
  | some w => if w.target = t then refuseStalled .targetDown s else s

/-- R94: the owner has an access in hand: a stalled write, or a pending read whose cycle is open. -/
def State.inHand (s : State) : Bool := s.stalled.isSome || s.read.any (·.deliver)

/-! ### Revocation and the end of a drain -/

/-- R77, R122: entry `i`, HELD or PARKED with lease `l`, is revoked. -/
def revokeEntry (i : EntryIx) (r : RevokeReason) (l : Lease) (s : State) : State :=
  (refuseStalledUnder i .leaseRetiring s).setLease i (l.revoke r)

/-- R74, R77: a drained entry leaves CLOSING (its CLOSE is answered) or REVOKING. -/
def endDrain (i : EntryIx) (l : Lease) (endCode : Byte) (s : State) : State :=
  let s1 := s.setLease i l.drained
  match l.state with
  | .closing => answerClose l.holder i endCode s1
  | _ => s1

/-- R12: the engine has finished an access tagged with a handle; `lost` adds WRITE_LOST (R14). The flag
says that a drain ended, so that an entry left occupancy. -/
def finishAccess (h : Handle) (lost : Bool) (s : State) : State × Bool :=
  match s.lease h.index with
  | none => (s, false)
  | some l =>
    let l1 : Lease := { l with
      outstanding := l.outstanding - 1
      marks := { l.marks with writeLost := l.marks.writeLost || lost } }
    if l1.outstanding = 0 ∧ l1.draining = true then (endDrain h.index l1 0x00 s, true)
    else (s.setLease h.index (some l1), false)

/-! ### The engine's choice -/

/-- R134: queue head, else pending read, else the probe of the lowest-numbered target. -/
def State.nextHolding (s : State) : Option (Holding × TargetIx) :=
  match s.queue with
  | w :: _ => some (.write, w.target)
  | [] =>
    match s.read with
    | some x => some (.read, x.target)
    | none => (allTargets.find? fun t => (s.probe t).isSome).map fun t => (.probe t, t)

/-- R134, R135: with no current access, the chosen one starts, with the three values of its target's
record. -/
def startNext (s : State) : State :=
  match s.current with
  | some _ => s
  | none =>
    match s.nextHolding with
    | none => s
    | some (h, t) =>
      { s with
        current := some
          { holding := h
            taken := 0
            phase := .setup
            waitStates := (s.settings t).waitStates
            readyTimeout := (s.settings t).readyTimeout
            base := (s.settings t).span.base } }

/-- R12, R119: an access is admitted under an entry: its outstanding count rises. -/
def countAdmission (i : EntryIx) (s : State) : State :=
  match s.lease i with
  | none => s
  | some l => s.setLease i (some { l with outstanding := l.outstanding + 1 })

/-- R119, R120: a write is admitted: it joins the queue and its cycle ends with one IACK per word. -/
def admitWrite (w : PostedWrite) (s : State) : State :=
  let s1 := countAdmission w.handle.index s
  answerBus { acks := w.burst.words, ierr := false, words := [] } { s1 with queue := s1.queue ++ [w] }

/-- R122: the stalled write takes a free place of the queue. -/
def admitStalled (s : State) : State :=
  match s.stalled with
  | none => s
  | some w =>
    if s.queue.length < Config.queueDepth then admitWrite w { s with stalled := none } else s

end Sys2Proof.Machine
end

