-- ==== Sys2Proof/Machine/Flags.lean ====
section
/-! DEFINITION. What the part reports of its state: the codes of the record fields, the records that
responses carry (R20, R25, R129, R164, R180), the attention sources and the output lines, all computed
from the state. -/

namespace Sys2Proof.Machine

/-! ### Codes -/

/-- R20: the class codes. -/
def LeaseClass.code : LeaseClass → Byte
  | .sharedRead => 0x01
  | .exclusive => 0x02

/-- R16: the codes of the revoke reasons. -/
def RevokeReason.code : RevokeReason → Byte
  | .expired => 0x01
  | .supervisor => 0x02
  | .targetLost => 0x03
  | .cleared => 0x04
  | .portReset => 0x05

/-- R20: the state codes of an entry that is not FREE. -/
def LeaseState.code : LeaseState → Byte
  | .held => 0x01
  | .parked => 0x02
  | .closing => 0x03
  | .revoking _ _ => 0x04
  | .revoked _ => 0x05

/-- R1: the revoke reason, present in REVOKING and REVOKED. -/
def LeaseState.reason : LeaseState → Option RevokeReason
  | .revoking r _ => some r
  | .revoked r => some r
  | _ => none

/-- R20: a revoke reason, 00H when absent. -/
def reasonByte (r : Option RevokeReason) : Byte :=
  match r with
  | some x => x.code
  | none => 0x00

/-- R20: the marks byte, a sum. -/
def Marks.byte (m : Marks) : Byte :=
  (if m.expiryNear then 0x01 else 0x00) + (if m.revoked then 0x02 else 0x00) +
    (if m.writeLost then 0x04 else 0x00)

/-- R20: a balance in two's complement. -/
def balanceByte (b : Int) : Byte := BitVec.ofInt 8 b

/-- R25: the codes of a refused ticket's reason. -/
def RefuseReason.code : RefuseReason → Byte
  | .waitExpired => 0x01
  | .targetDown => 0x02
  | .cleared => 0x03

/-- R25: the ticket state codes. -/
def Ticket.code : Ticket → Byte
  | .unused => 0x00
  | .waiting => 0x01
  | .granted _ => 0x02
  | .refused _ => 0x03

/-- R95: the requester state codes. -/
def Requester.code : Requester → Byte
  | .idle => 0x00
  | .waiting => 0x01
  | .owner => 0x02
  | .yielding => 0x03
  | .preempted => 0x04

/-- R128: the fault reason codes. -/
def FaultReason.code : FaultReason → Byte
  | .noLease => 0x01
  | .readOnly => 0x02
  | .leaseParked => 0x03
  | .leaseRetiring => 0x04
  | .unmapped => 0x05
  | .targetDown => 0x06
  | .targetTimeout => 0x07
  | .badBurst => 0x08
  | .preempted => 0x09
  | .writeLost => 0x0A
  | .notOwner => 0x0B

/-- R164: the target state codes. -/
def TargetState.code : TargetState → Byte
  | .unconfigured => 0x00
  | .probing => 0x01
  | .ready => 0x02
  | .suspect => 0x03
  | .offline => 0x04

/-- R164: the last fault codes. -/
def LastFault.code : LastFault → Byte
  | .none => 0x00
  | .accessTimeout => 0x01
  | .probeMismatch => 0x02
  | .probeTimeout => 0x03

/-- One bit as a byte. -/
def flagByte (b : Bool) : Byte := if b then 0x01 else 0x00

/-! ### Records -/

/-- R10: the two result bytes of WRONG_STATE and TOO_LATE. -/
def LeaseState.refusalBytes (st : LeaseState) : List Byte := [st.code, reasonByte st.reason]

/-- R20: the sixteen bytes of a directory entry. -/
def entryRecord (i : EntryIx) (e : Entry) : List Byte :=
  match e.lease with
  | none =>
    [byteOf i, e.generation, 0x00, 0xFF, 0xFF] ++ word16 0 ++ word16 0 ++ [0x00, 0x00] ++ word16 0 ++
      [0x00, 0x00, 0x00]
  | some l =>
    [byteOf i, e.generation, l.state.code, byteOf l.holder, byteOf l.claim.target] ++
      word16 l.claim.window.base ++ word16 l.claim.window.count ++
      [l.claim.cls.code, balanceByte l.balance] ++ word16 l.interval ++
      [byteOf l.outstanding, l.marks.byte, reasonByte l.state.reason]

/-- R25: the four bytes of a ticket. -/
def ticketRecord (s : State) (p : Port) (k : Slot) : List Byte :=
  match s.ticket p k with
  | .unused => [byteOf k, 0x00, 0x00, 0x00]
  | .waiting => [byteOf k, 0x01, byteOf (s.position p k), 0x00]
  | .granted h => [byteOf k, 0x02, byteOf h.index, h.generation]
  | .refused r => [byteOf k, 0x03, r.code, 0x00]

/-- R129: the ten bytes of a fault record. -/
def faultBytes (r : FaultRecord) : List Byte :=
  match r.fault with
  | none => [0x00, 0x00, flagByte r.further, 0x00, 0x00, 0x00, 0xFF, 0xFF, 0x00, 0xFF]
  | some f =>
    [0x01, f.reason.code, flagByte r.further] ++
      (match f.access with
        | some (a, .read) => bytes24 a ++ [0x00]
        | some (a, .write) => bytes24 a ++ [0x01]
        | none => [0x00, 0x00, 0x00, 0xFF]) ++
      (match f.handle with
        | some h => [byteOf h.index, h.generation]
        | none => [0xFF, 0x00]) ++
      (match f.target with
        | some t => [byteOf t]
        | none => [0xFF])

/-- R164: the bytes of the settings, zeros when absent. -/
def settingsBytes (x : Option Settings) : List Byte :=
  match x with
  | none => List.replicate 17 0x00
  | some x =>
    word16 x.span.base ++ word16 x.span.count ++ [byteOf x.waitStates] ++ word16 x.readyTimeout ++
      word16 x.term ++
      (match x.probe with
        | none => List.replicate 8 0x00
        | some y => [0x01] ++ bytes24 y.address ++ bytes32 y.signature)

/-- R164: the 28 bytes of TARGET_STATUS. -/
def targetRecordBytes (s : State) (t : TargetIx) : List Byte :=
  let r := s.target t
  [byteOf t, r.state.code] ++ settingsBytes r.settings ++ [byteOf r.timeouts, r.lastFault.code] ++
    (match r.probeResult with
      | none => [0x00] ++ bytes32 0
      | some w => [0x01] ++ bytes32 w) ++
    [byteOf (s.occupants t), byteOf (s.waitersFor t)]

/-- R172: the bytes of a response frame. -/
def Response.bytes (r : Response) : List Byte :=
  [r.tag, r.status.code, byteOf r.results.length] ++ r.results

/-- R169: the empty frame. -/
def emptyFrame : List Byte := [0x00, 0x00, 0x00]

/-- The frame a read transfer chose. -/
def chosenBytes (r : Option Response) : List Byte :=
  match r with
  | some x => x.bytes
  | none => emptyFrame

/-! ### Output lines -/

/-- The requester state of a port. -/
def State.requester (s : State) (p : Port) : Requester := s.arb.ports[p].req

/-- R94: TGRn. -/
def State.tgr (s : State) (p : Port) : Bool :=
  match s.requester p with
  | .owner => true
  | .yielding => true
  | _ => false

/-- R94: TYDn. -/
def State.tyd (s : State) (p : Port) : Bool :=
  match s.requester p with
  | .yielding => true
  | _ => false

/-- R166: RDYn. -/
def State.rdy (s : State) (p : Port) : Bool :=
  match (s.link p).link with
  | .responseReady _ => true
  | _ => false

/-- R24: a ticket that is an attention source. -/
def Ticket.attends : Ticket → Bool
  | .granted _ => true
  | .refused _ => true
  | _ => false

/-- R15: an entry of the port whose marks set is not empty. -/
def State.marked (s : State) (p : Port) (i : EntryIx) : Bool :=
  (s.lease i).any fun l => l.holder == p && l.marks.any

/-- R178: ATTNn is high while one of the five sources stands. -/
def State.attn (s : State) (p : Port) : Bool :=
  (s.link p).fault.fault.isSome || (s.ticket p 0).attends || (s.ticket p 1).attends ||
    allEntries.any (s.marked p) || s.tyd p || (s.link p).overrun

/-- R180: the eight bytes of ATTENTION. -/
def attentionRecord (s : State) (p : Port) : List Byte :=
  [(s.ticket p 0).code, (s.ticket p 1).code, flagByte (s.link p).fault.fault.isSome,
    flagByte (s.tyd p), flagByte (s.link p).overrun, byteOf (allEntries.countP (s.marked p))] ++
    (match allEntries.find? (s.marked p) with
      | some i => [byteOf i, (s.entry i).generation]
      | none => [0xFF, 0x00])

/-- R165, R169: the level of LDOn at the n-th clock after the first byte of a read transfer. -/
def ldoBit (chosen : Option Response) (n : Nat) : Bool :=
  ((bitsOf (chosenBytes chosen))[n]?).getD Config.idleLevel

/-- R165, R168, R169, R183: the level of LDOn; `n` counts the clocks since the first byte of the transfer
under way, if there is one. High while RESET is low, while LSELn is high, during a first byte, in a request
transfer, in a transfer that is ignored or cut, and after a frame's last byte. -/
def State.ldo (s : State) (p : Port) (n : Nat) : Bool :=
  if s.resetLow then Config.idleLevel
  else
    match (s.link p).transfer with
    | .read chosen false => ldoBit chosen n
    | _ => Config.idleLevel

/-- The target of a holding of the engine. -/
def State.holdingTarget (s : State) (h : Holding) : Option TargetIx :=
  match h with
  | .write => s.queue.head?.map (·.target)
  | .read => s.read.map (·.target)
  | .probe t => some t

/-- The byte address and burst of a holding. -/
def State.holdingAddress (s : State) (h : Holding) : Option (Addr × Burst) :=
  match h with
  | .write => s.queue.head?.map fun w => (w.address, w.burst)
  | .read => s.read.map fun x => (x.address, x.burst)
  | .probe t => (s.probe t).map fun x => (x.address, .w1)

/-- R135, R136: the access is in its setup or in a word, so that TCS is low; in the end period it has
risen. -/
def Phase.selected : Phase → Bool
  | .ending _ => false
  | _ => true

/-- R135: the access is in one of its words. -/
def Phase.inWord : Phase → Bool
  | .word _ _ => true
  | _ => false

/-- R135: TCS of target `t` is low. -/
def State.tcsLow (s : State) (t : TargetIx) : Bool :=
  match s.current with
  | some c => c.phase.selected && s.holdingTarget c.holding == some t
  | none => false

/-- R130, R135: TWR. DESIGN CHOICE (log 23): it is set at the start of a write and stays high to its end
step, the end period too, when TCS has risen. -/
def State.twr (s : State) : Bool :=
  match s.current with
  | some c => c.holding == .write
  | none => false

/-- R135: the byte address driven for the word being transferred, its offset in the span. DESIGN CHOICE
(log 23): in the Start and End periods and while the engine is IDLE the model gives TA no level; that is not
to say that it is undriven. -/
def State.ta (s : State) : Option Addr :=
  match s.current with
  | some c =>
    if c.phase.inWord then
      (s.holdingAddress c.holding).map fun x => targetOffset c.base (burstWord x.2 x.1 c.taken)
    else none
  | none => none

/-- R135: the word driven on TD31-TD0 during a write. DESIGN CHOICE (log 23): in the period before the
first word TD is not driven. -/
def State.td (s : State) : Option Word :=
  match s.current with
  | some c =>
    if c.holding = .write ∧ c.phase.inWord = true then
      match s.queue with
      | w :: _ => w.data[c.taken]?
      | [] => none
    else none
  | none => none

end Sys2Proof.Machine
end

