-- ==== Sys2Proof/Machine/Arbiter.lean ====
section
/-! DEFINITION. The bus arbiter (06): TRQ_RISE, TRQ_FALL, HOLD_EXPIRY, PREEMPTION, SET_PRIORITY, SET_HOLD,
and the operations on the arbiter that other steps contain: arbitration, grant, yield, the loss of the
grant, the end of the read that holds the bus. -/

namespace Sys2Proof.Machine

/-- What the arbiter holds for a port. -/
def State.requesting (s : State) (p : Port) : Requesting := s.arb.ports[p]

/-- Replace what the arbiter holds for a port. -/
def State.setRequesting (s : State) (p : Port) (r : Requesting) : State :=
  { s with arb := { s.arb with ports := s.arb.ports.set p r } }

/-- Set the requester state of a port (R95). -/
def State.setRequester (s : State) (p : Port) (r : Requester) : State :=
  s.setRequesting p { s.requesting p with req := r }

/-- R94: the level of TRQn as last seen. -/
def State.setTrq (s : State) (p : Port) (b : Bool) : State :=
  s.setRequesting p { s.requesting p with trq := b }

/-- R47: a timer loaded with a count. -/
def Timer.load (n : Nat) : Timer := { count := n, running := true, due := false }

/-- R47: a timer that is stopped keeps its count. -/
def Timer.stop (t : Timer) : Timer := { t with running := false, due := false }

/-- R98: ascending port order after the pointer, which is itself the last one counted. -/
def roundRobin (ptr : Port) : List Port := [ptr + 1, ptr + 2, ptr + 3, ptr + 4, ptr + 5, ptr]

/-- R98: the port an arbitration selects: the highest level held by a WAITING port, and round robin
within it. -/
def State.arbitrationChoice (s : State) : Option Port :=
  ([3, 2, 1, 0] : List (Fin 4)).findSome? fun lv =>
    (roundRobin s.arb.pointers[lv]).find? fun p =>
      s.requester p == .waiting && (s.requesting p).level == lv

/-- R98, R99: the grant to the selected port, with the pointer of its level. A hold limit of 0 loads no hold
timer, which stays stopped at its count (R47). -/
def grantBus (p : Port) (s : State) : State :=
  let r := s.requesting p
  let s1 := s.setRequester p .owner
  { s1 with
    arb := { s1.arb with
      bus := .owned p
      pointers := s1.arb.pointers.set r.level p
      recent := some p
      inForce := some { hold := r.hold, grace := r.grace }
      holdTimer := if r.hold = 0 then s1.arb.holdTimer.stop else Timer.load r.hold
      graceTimer := s1.arb.graceTimer.stop
      overdue := false } }

/-- R98: an arbitration is taken if the bus is FREE and a port is WAITING. -/
def arbitrate (s : State) : State :=
  match s.arb.bus with
  | .free =>
    match s.arbitrationChoice with
    | some p => grantBus p s
    | none => s
  | _ => s

/-- R103: a port WAITING at a level equal to or higher than the owner's. -/
def State.hasContender (s : State) (owner : Port) : Bool :=
  allPorts.any fun q =>
    s.requester q == .waiting && decide ((s.requesting owner).level ≤ (s.requesting q).level)

/-- R103, R104: the owner is asked to yield. -/
def askYield (p : Port) (s : State) : State :=
  let s1 := s.setRequester p .yielding
  let grace := match s.arb.inForce with
    | some f => f.grace
    | none => (s.requesting p).grace
  { s1 with arb := { s1.arb with graceTimer := Timer.load grace, overdue := false } }

/-- R104: the contender test while the owner is overdue. -/
def contenderTest (s : State) : State :=
  match s.arb.bus with
  | .owned p =>
    if s.requester p = .owner ∧ s.arb.overdue = true ∧ s.hasContender p = true then askYield p s else s
  | _ => s

/-- R132: the port that issued the pending read has lost its cycle. -/
def discardRead (p : Port) (s : State) : State :=
  match s.read with
  | some x => if x.port = p then { s with read := some { x with deliver := false } } else s
  | none => s

/-- R101, R106, R112: the owner loses the grant; the bus goes to HANDOVER if a read is pending in the
engine, else to FREE, and an arbitration is taken then. -/
def loseGrant (p : Port) (r : Requester) (s : State) : State :=
  let s1 := discardRead p (s.setRequester p r)
  arbitrate { s1 with
    arb := { s1.arb with
      bus := if s1.read.isSome then .handover else .free
      holdTimer := s1.arb.holdTimer.stop
      graceTimer := s1.arb.graceTimer.stop
      inForce := none
      overdue := false } }

/-- R102: the engine tells the arbiter that the read has ended. -/
def readEnded (s : State) : State :=
  match s.arb.bus with
  | .handover => arbitrate { s with arb := { s.arb with bus := .free } }
  | _ => s

/-- R101, R107, R126: the owner's access in hand is ended by the part, with IERR or without. A stalled
write is not queued. A pending read stays in the engine. -/
def endInHand (ierr : Bool) (s : State) : State :=
  if s.inHand then answerBus { acks := 0, ierr := ierr, words := [] } { s with stalled := none } else s

/-- R97: the rise is taken as a request. -/
def takeRise (p : Port) (s : State) : State :=
  match s.requester p with
  | .idle =>
    let s1 := s.setRequester p .waiting
    match s1.arb.bus with
    | .free => arbitrate s1
    | _ => contenderTest s1
  | _ => s

/-- R97: TRQ_RISE. A line that is already high does not rise; while PRSTn is low the rise is ignored
(R94). -/
def execTrqRise (p : Port) (s : State) : Outcome :=
  whenLive s fun s =>
    if (s.requesting p).trq then s
    else if (s.link p).prstLow then s.setTrq p true
    else takeRise p (s.setTrq p true)

/-- R100, R101, R109: the fall is taken according to the requester state. -/
def takeFall (p : Port) (s : State) : State :=
  match s.requester p with
  | .idle => s
  | .waiting => s.setRequester p .idle
  | .owner => loseGrant p .idle (endInHand false s)
  | .yielding => loseGrant p .idle (endInHand false s)
  | .preempted => s.setRequester p .idle

/-- R100: TRQ_FALL. -/
def execTrqFall (p : Port) (s : State) : Outcome :=
  whenLive s fun s =>
    if (s.requesting p).trq then
      if (s.link p).prstLow then s.setTrq p false else takeFall p (s.setTrq p false)
    else s

/-- R103: the hold timer has reached zero at its tick. -/
def takeHoldExpiry (s : State) : State :=
  match s.arb.bus with
  | .owned p =>
    if s.requester p = .owner ∧ s.arb.holdTimer.due = true then
      let s1 := { s with arb := { s.arb with holdTimer := Timer.stopped } }
      if s1.hasContender p then askYield p s1 else { s1 with arb := { s1.arb with overdue := true } }
    else s
  | _ => s

/-- R103: HOLD_EXPIRY. -/
def execHoldExpiry (s : State) : Outcome := whenLive s takeHoldExpiry

/-- R107, R128: the fault of a preemption: the access in hand, or no access. -/
def State.preemptionFault (s : State) : AccessFault :=
  match s.stalled with
  | some w => w.fault .preempted
  | none =>
    match s.read with
    | some x =>
      if x.deliver then x.fault .preempted
      else { reason := .preempted, access := none, handle := none, target := none }
    | none => { reason := .preempted, access := none, handle := none, target := none }

/-- R106: the grace timer has reached zero at its tick. -/
def takePreemption (s : State) : State :=
  match s.arb.bus with
  | .owned p =>
    if s.requester p = .yielding ∧ s.arb.graceTimer.due = true then
      loseGrant p .preempted (endInHand true (enterFault p s.preemptionFault
        { s with arb := { s.arb with graceTimer := Timer.stopped } }))
    else s
  | _ => s

/-- R106: PREEMPTION. -/
def execPreemption (s : State) : Outcome := whenLive s takePreemption

/-- R110: SET_PRIORITY. -/
def takeSetPriority (port level : Byte) (s : State) : State :=
  match indexOf 6 port, indexOf 4 level with
  | some p, some lv =>
    let before := (s.requesting p).level
    let s1 := contenderTest (s.setRequesting p { s.requesting p with level := lv })
    respond supervisorPort .ok
      [port, byteOf before, level, (s1.requester p).code] s1
  | _, _ => respond supervisorPort .badArgument [] s

/-- R110: SET_PRIORITY. -/
def execSetPriority (s : State) : Outcome :=
  whenLive s fun s =>
    match s.handed supervisorPort with
    | some (.setPriority port level) => takeSetPriority port level s
    | _ => s

/-- R111: SET_HOLD. -/
def takeSetHold (port : Byte) (hold : BitVec 16) (grace : Byte) (s : State) : State :=
  match indexOf 6 port with
  | some p =>
    if hold.toNat ≤ 4095 ∧ grace ≠ 0 then
      let s1 := s.setRequesting p { s.requesting p with hold := hold.toNat, grace := grace.toNat }
      respond supervisorPort .ok
        ([port] ++ bytes16 hold ++ [grace, (s1.requester p).code]) s1
    else respond supervisorPort .badArgument [] s
  | none => respond supervisorPort .badArgument [] s

/-- R111: SET_HOLD. -/
def execSetHold (s : State) : Outcome :=
  whenLive s fun s =>
    match s.handed supervisorPort with
    | some (.setHold port hold grace) => takeSetHold port hold grace s
    | _ => s

end Sys2Proof.Machine
end

