-- ==== Sys2Proof/WellFormed.lean ====
section
/-! DEFINITION. Which commands are commands of the part at all. A term that is not (log 10) is refused
by the meaning under the name `Refusal.illFormed`; everything a frame's bytes can say is well formed. -/

namespace Sys2Proof

/-- R165: a transfer whose first byte is 00H is a read transfer, never a request transfer. -/
def frameIsRequest (frame : List Byte) : Bool := frame.head? != some 0

/-- R113: a write is whole when as many words as its burst length have been presented. -/
def Access.whole : Access → Bool
  | .read _ => true
  | .write burst data => data.length == burst.words

/-- The checks, one for each command that carries data which could contradict itself. -/
def Instr.wellFormed : Instr → Bool
  | .requestTransfer _ first rest => frameIsRequest (bytesOf (first ++ rest))
  | .readTransfer _ clocks beforeCut => decide (beforeCut ≤ clocks)
  | .access _ x => x.whole
  | .brokenWrite _ burst presented => decide (presented < burst.words)
  | .powerOn => true
  | .resetRelease _ => true
  | .prstLow _ _ => true
  | .prstRelease _ => true
  | .openLease _ => true
  | .renew _ => true
  | .close _ => true
  | .park _ => true
  | .unpark _ => true
  | .reshape _ => true
  | .status _ => true
  | .ackRevoke _ => true
  | .cancel _ => true
  | .ticketRead _ => true
  | .attention _ _ => true
  | .faultRead _ _ => true
  | .configureTarget => true
  | .releaseTarget => true
  | .targetStatus => true
  | .setQuota => true
  | .setPriority => true
  | .setHold => true
  | .setTimebase => true
  | .revoke => true
  | .purgeHandle => true
  | .purgePort => true
  | .directoryClear => true
  | .portReset => true
  | .directoryRead => true
  | .tick => true
  | .termBoundary _ => true
  | .waitExpired _ _ => true
  | .holdExpiry => true
  | .preemption => true
  | .trqRise _ => true
  | .trqFall _ => true
  | .stalledWriteAdmission => true
  | .accessStart => true
  | .writeCompletion => true
  | .readCompletion _ => true
  | .probeCompletion _ => true
  | .writeTimeout _ => true
  | .readTimeout _ => true
  | .probeTimeout => true
  | .closingDrainEnd _ => true
  | .revokingDrainEnd _ => true
  | .firstByteClocked _ _ => true

end Sys2Proof
end

