-- ==== Sys2Proof/Machine/Access.lean ====
section
/-! DEFINITION. The access checker (07): ACCESS, BROKEN_WRITE and STALLED_WRITE_ADMISSION. -/

namespace Sys2Proof.Machine

/-- R116: a refusal ends the cycle with IERR (zero words for a read) and enters the fault, if there is a
port to enter it for. -/
def refuseAccess (p : Option Port) (f : AccessFault) (words : List Word) (s : State) : State :=
  answerBus (.error words)
    (match p with
      | some p => enterFault p f s
      | none => s)

/-- R118: the entry covers the page for the owner. -/
def State.covers (s : State) (p : Port) (page : Nat) (i : EntryIx) : Bool :=
  (s.lease i).any fun l => l.occupying && l.holder == p && l.claim.window.hasPage page

/-- R118: the selected entry, the lowest-indexed that covers the page. -/
def State.selected (s : State) (p : Port) (page : Nat) : Option EntryIx :=
  allEntries.find? (s.covers p page)

/-- R118: checks 6 to 8 on the selected entry. -/
def Lease.admission (l : Lease) (d : Dir) : Option FaultReason :=
  match l.state with
  | .held =>
    match l.claim.cls, d with
    | .sharedRead, .write => some .readOnly
    | _, _ => none
  | .parked => some .leaseParked
  | _ => some .leaseRetiring

/-- What the checks of R116 come to: a refusal with its reason, handle and target, or the selected entry
and the target. -/
inductive Verdict where
  | refuse (r : FaultReason) (h : Option Handle) (t : Option TargetIx)
  | pass (h : Handle) (t : TargetIx)
deriving DecidableEq, Repr

/-- R116: checks 3 to 8, for an access of port `p`. -/
def State.checkAccess (s : State) (p : Port) (page : Nat) (d : Dir) : Verdict :=
  match s.targetOfPage page with
  | none => .refuse .unmapped none none
  | some t =>
    if (s.target t).state.inService then
      match s.selected p page with
      | none => .refuse .noLease none (some t)
      | some i =>
        let h : Handle := { index := i, generation := (s.entry i).generation }
        match s.lease i with
        | none => .refuse .noLease none (some t)
        | some l =>
          match l.admission d with
          | some r => .refuse r (some h) (some t)
          | none => .pass h t
    else .refuse .targetDown none (some t)

/-- R120, R121: a write that passes the checks is admitted, or stalled if the queue is full. -/
def takeWrite (w : PostedWrite) (s : State) : State :=
  if s.queue.length < Config.queueDepth then startNext (admitWrite w s)
  else { s with stalled := some w }

/-- R123: a read that passes the checks becomes the pending read. -/
def takeRead (x : PendingRead) (s : State) : State :=
  startNext { countAdmission x.handle.index s with read := some x }

/-- The words of zeros that an access refused gets back: a read's burst, nothing for a write. -/
def refusedWords : Access → List Word
  | .read b => zeroWords b.words
  | .write _ _ => []

/-- R116: the access of port `p`, which owns the bus and has no access in hand. -/
def decideAccess (p : Port) (a : WordAddr) (x : Access) (s : State) : State :=
  match s.checkAccess p (pageOf (byteAddr a)) (accessDir x) with
  | .refuse r h t =>
    refuseAccess (some p)
      { reason := r
        access := some (byteAddr a, accessDir x)
        handle := h
        target := t }
      (refusedWords x) s
  | .pass h t =>
    match x with
    | .write b data =>
      takeWrite
        { handle := h
          port := p
          target := t
          address := byteAddr a
          burst := b
          data := data } s
    | .read b =>
      takeRead
        { handle := h
          port := p
          target := t
          address := byteAddr a
          burst := b
          deliver := true
          buffer := [] } s

/-- R115: an access taken while no port owns the bus, entered for the port of the most recent grant. -/
def refuseNotOwner (a : WordAddr) (d : Dir) (words : List Word) (s : State) : State :=
  refuseAccess s.arb.recent
    { reason := .notOwner, access := some (byteAddr a, d), handle := none, target := none } words s

/-- R113, R115, R116: the checker takes a whole access. While the owner has an access in hand no access is
presented. -/
def takeAccess (a : WordAddr) (x : Access) (s : State) : State :=
  match s.arb.bus with
  | .owned p => if s.inHand then s else decideAccess p a x s
  | _ => refuseNotOwner a (accessDir x) (refusedWords x) s

/-- R116: ACCESS. -/
def execAccess (a : WordAddr) (x : Access) (s : State) : Outcome :=
  if x.whole then whenLive s (takeAccess a x) else .refused .illFormed

/-- R113, R116: checks 1 and 2 on a broken write. -/
def takeBrokenWrite (a : WordAddr) (s : State) : State :=
  match s.arb.bus with
  | .owned p =>
    if s.inHand then s
    else
      refuseAccess (some p)
        { reason := .badBurst
          access := some (byteAddr a, .write)
          handle := none
          target := s.targetOfPage (pageOf (byteAddr a)) } [] s
  | _ => refuseNotOwner a .write [] s

/-- R113: BROKEN_WRITE. -/
def execBrokenWrite (a : WordAddr) (burst : Burst) (presented : Nat) (s : State) : Outcome :=
  if presented < burst.words then whenLive s (takeBrokenWrite a) else .refused .illFormed

/-- R122: STALLED_WRITE_ADMISSION. The step in which a place frees contains this (R138, stage 6). -/
def execStalledWriteAdmission (s : State) : Outcome :=
  whenLive s fun s => startNext (admitStalled s)

end Sys2Proof.Machine
end

