-- ==== Sys2Proof/Machine/Target.lean ====
section
/-! DEFINITION. The target controller (09): CONFIGURE_TARGET, RELEASE_TARGET and TARGET_STATUS, the reports
of the engine's ends and the loss step. -/

namespace Sys2Proof.Machine

/-! ### The loss step (R160) -/

/-- R145, R160.1: one write for the lost target is discarded. -/
def discardWrite (s : State) (w : PostedWrite) : State :=
  let s1 := enterFault w.port (w.fault .writeLost) s
  match s1.lease w.handle.index with
  | none => s1
  | some l => s1.setLease w.handle.index (some { l with marks := { l.marks with writeLost := true } })

/-- R145, R160.1: every queue entry for the target is removed, the others close up. DESIGN CHOICE (log 22):
they are discarded from the queue's head to its tail, so that of several writes of one port the oldest
makes the fault that its record keeps (R128). -/
def discardWrites (t : TargetIx) (s : State) : State :=
  (s.queue.filter fun w => w.target == t).foldl discardWrite
    { s with queue := s.queue.filter fun w => !(w.target == t) }

/-- R160.2: a pending read for the target is removed. -/
def dropRead (t : TargetIx) (s : State) : State :=
  match s.read with
  | none => s
  | some x =>
    if x.target = t then
      let s1 := { s with read := none }
      let s2 :=
        if x.deliver then
          answerBus (.error (zeroWords x.burst.words)) (enterFault x.port (x.fault .targetDown) s1)
        else s1
      readEnded s2
    else s

/-- R160.4, R160.5: what becomes of a lease on the lost target; none is FREE. -/
def Lease.settleLost (l : Lease) : Option Lease :=
  let l1 : Lease := { l with outstanding := 0, boundaryDue := false }
  match l.state with
  | .held => some { l1 with state := .revoked .targetLost, marks := { l.marks with revoked := true } }
  | .parked => some { l1 with state := .revoked .targetLost, marks := { l.marks with revoked := true } }
  | .closing => none
  | .revoking _ _ => l1.drained
  | .revoked _ => some l1

/-- R160.5: an entry on the lost target. -/
def Entry.settleLost (t : TargetIx) (e : Entry) : Entry :=
  match e.lease with
  | some l => if l.claim.target = t then { e with lease := l.settleLost } else e
  | none => e

/-- R74, R161: the CLOSEs in hand of CLOSING entries on the target are answered with end code 03H. -/
def answerLostCloses (t : TargetIx) (s : State) : State :=
  allEntries.foldl
    (fun s i =>
      match s.lease i with
      | some l =>
        if l.claim.target = t ∧ l.state = .closing then answerClose l.holder i 0x03 s else s
      | none => s) s

/-- R160: the loss step of target `t`, which goes OFFLINE with this last fault. Its scan is made by the
step it is part of (R33). -/
def loseTarget (t : TargetIx) (f : LastFault) (s : State) : State :=
  let s0 := s.setTarget t { s.target t with state := .offline, lastFault := f }
  let s3 := refuseStalledFor t (dropRead t (discardWrites t s0))
  let s4 := answerLostCloses t s3
  let s5 := { s4 with entries := vmap (Entry.settleLost t) s4.entries }
  refuseWaiters (fun w => w.claim.target == t) .targetDown s5

/-! ### Reports of owner accesses (R158, R159) -/

/-- R159: an access completion. The flag says that the target became READY, which starts a scan. -/
def reportCompletion (t : TargetIx) (s : State) : State × Bool :=
  let r := s.target t
  match r.state with
  | .suspect => (s.setTarget t { r with timeouts := 0, state := .ready }, true)
  | _ => (s.setTarget t { r with timeouts := 0 }, false)

/-- R158: an access timeout. The flag says that the target was lost, which starts a scan. -/
def reportTimeout (t : TargetIx) (s : State) : State × Bool :=
  let r := s.target t
  match r.state with
  | .ready => (s.setTarget t { r with timeouts := 1, state := .suspect, lastFault := .accessTimeout }, false)
  | .suspect => (loseTarget t .accessTimeout (s.setTarget t { r with timeouts := 2 }), true)
  | _ => (s, false)

/-- R155: the end of a probe with its word. -/
def reportProbeWord (t : TargetIx) (w : Word) (s : State) : State × Bool :=
  let r := s.target t
  if (s.settings t).probe.any (fun x => x.signature == w) then
    (s.setTarget t { r with probeResult := some w, state := .ready }, true)
  else (loseTarget t .probeMismatch (s.setTarget t { r with probeResult := some w }), true)

/-! ### The supervisor commands -/

/-- R151: the named target is PROBING, or an occupying entry names it. -/
def State.targetBusy (s : State) (t : TargetIx) : Bool :=
  (s.target t).state == .probing || decide (0 < s.occupants t)

/-- R151, R157: the two result bytes of TARGET_BUSY. -/
def State.busyBytes (s : State) (t : TargetIx) : List Byte :=
  [(s.target t).state.code, byteOf (s.occupants t)]

/-- R152: the lowest-numbered other target whose span overlaps. -/
def State.overlapping (s : State) (t : TargetIx) (w : Window) : Option TargetIx :=
  allTargets.find? fun u => u != t && (s.span u).any w.overlaps

/-- R153: the record, with its health reset. -/
def Settings.record (x : Settings) : TargetRecord :=
  { state := if x.probe.isSome then .probing else .ready
    settings := some x
    probeResult := none
    timeouts := 0
    lastFault := .none }

/-- R153: an accepted CONFIGURE_TARGET. -/
def configure (t : TargetIx) (x : Settings) (s : State) : State :=
  let n := s.waitersFor t
  let s1 := refuseWaiters (fun w => w.claim.target == t) .targetDown (s.setTarget t x.record)
  let s2 :=
    match x.probe with
    | some y => startNext (s1.setProbe t (some { address := y.address, captured := none }))
    | none => s1
  respond supervisorPort .ok [byteOf t, x.record.state.code, byteOf n]
    (scanIf (decide (0 < n) || x.probe.isNone) s2)

/-- R150 to R153: CONFIGURE_TARGET with its three checks. -/
def takeConfigureTarget (a : TargetArgs) (s : State) : State :=
  match settingsOf a with
  | none => respond supervisorPort .badArgument [] s
  | some (t, x) =>
    if s.targetBusy t then respond supervisorPort .targetBusy (s.busyBytes t) s
    else
      match s.overlapping t x.span with
      | some u => respond supervisorPort .overlap [byteOf u] s
      | none => configure t x s

/-- R153: CONFIGURE_TARGET. -/
def execConfigureTarget (s : State) : Outcome :=
  whenLive s fun s =>
    match s.handed supervisorPort with
    | some (.configureTarget a) => takeConfigureTarget a s
    | _ => s

/-- R157: RELEASE_TARGET. -/
def takeReleaseTarget (target : Byte) (s : State) : State :=
  match indexOf 4 target with
  | none => respond supervisorPort .badArgument [] s
  | some t =>
    if s.targetBusy t then respond supervisorPort .targetBusy (s.busyBytes t) s
    else
      let n := s.waitersFor t
      let before := (s.target t).state.code
      let s1 := refuseWaiters (fun w => w.claim.target == t) .targetDown
        (s.setTarget t TargetRecord.powerOn)
      respond supervisorPort .ok [target, before, byteOf n] (scanIf (decide (0 < n)) s1)

/-- R157: RELEASE_TARGET. -/
def execReleaseTarget (s : State) : Outcome :=
  whenLive s fun s =>
    match s.handed supervisorPort with
    | some (.releaseTarget t) => takeReleaseTarget t s
    | _ => s

/-- R164: TARGET_STATUS. -/
def takeTargetStatus (target : Byte) (s : State) : State :=
  match indexOf 4 target with
  | none => respond supervisorPort .badArgument [] s
  | some t => respond supervisorPort .ok (targetRecordBytes s t) s

/-- R164: TARGET_STATUS. -/
def execTargetStatus (s : State) : Outcome :=
  whenLive s fun s =>
    match s.handed supervisorPort with
    | some (.targetStatus t) => takeTargetStatus t s
    | _ => s

end Sys2Proof.Machine
end

