-- ==== Sys2Proof/Machine/Engine.lean ====
section
/-! DEFINITION. The target engine (08): ACCESS_START and the six ends of an access, each one end step with
the stages of R138; and the engine's reference period (R135, R136). -/

namespace Sys2Proof.Machine

/-- R138, stages 5 and 6: one scan if a change of the step calls for it (R33), the freed place offered to
the stalled write, the next access chosen. -/
def endStep (scanWanted : Bool) (s : State) : State := startNext (admitStalled (scanIf scanWanted s))

/-- R139, R142: the write that is current ends; `taken` of its words were taken by the target. -/
def endWrite (timedOut : Bool) (taken : Nat) (s : State) : State :=
  match s.queue with
  | [] => s
  | w :: rest =>
    let s1 := { s with
      queue := rest
      current := none
      lastEnd := some ⟨.write, w.target, w.address, taken, timedOut⟩ }
    let f := finishAccess w.handle timedOut s1
    let s2 := if timedOut then enterFault w.port (w.fault .writeLost) f.1 else f.1
    let r := if timedOut then reportTimeout w.target s2 else reportCompletion w.target s2
    endStep (f.2 || r.2) r.1

/-- R140, R143: what is returned on the initiator bus for an owner read. -/
def returnRead (x : PendingRead) (timedOut : Bool) (words : List Word) (s : State) : State :=
  if x.deliver then
    if timedOut then
      answerBus (.error (zeroWords x.burst.words)) (enterFault x.port (x.fault .targetTimeout) s)
    else answerBus { acks := x.burst.words, ierr := false, words := words } s
  else s

/-- R140, R143: the owner read that is current ends, with the words the target gave. -/
def endRead (timedOut : Bool) (taken : Nat) (words : List Word) (s : State) : State :=
  match s.read with
  | none => s
  | some x =>
    let s1 := { s with
      read := none
      current := none
      lastEnd := some ⟨.read, x.target, x.address, taken, timedOut⟩ }
    let f := finishAccess x.handle false s1
    let s3 := readEnded (returnRead x timedOut words f.1)
    let r := if timedOut then reportTimeout x.target s3 else reportCompletion x.target s3
    endStep (f.2 || r.2) r.1

/-- R141, R144: the probe that is current ends, with its word or (none) by timeout. -/
def endProbe (t : TargetIx) (w : Option Word) (s : State) : State :=
  match s.probe t with
  | none => s
  | some x =>
    let s1 := { s.setProbe t none with
      current := none
      lastEnd := some ⟨.probe t, t, x.address, if w.isSome then 1 else 0, w.isNone⟩ }
    let r :=
      match w with
      | some w => reportProbeWord t w s1
      | none => (loseTarget t .probeTimeout s1, true)
    endStep r.2 r.1

/-- R134: ACCESS_START. The step that leaves the engine without a current access, or places an access in
an IDLE engine, contains this. -/
def execAccessStart (s : State) : Outcome := whenLive s startNext

/-- R136: the access has not timed out, so that it can still complete. DESIGN CHOICE (log 25): a queued end
row is taken in any phase before that, its setup too, and stands for the reference periods that the access
had left. -/
def Phase.mayComplete : Phase → Bool
  | .ending true => false
  | _ => true

/-- R136: the access can still time out after `taken` more words. One that has timed out takes no further
word. DESIGN CHOICE (log 25): a queued timeout row is taken in its setup or a word as well, whatever samples
were left. -/
def Phase.mayTimeOut (taken : Nat) : Phase → Bool
  | .ending false => false
  | .ending true => taken == 0
  | _ => true

/-- R139: the current write completes. -/
def completeWrite (s : State) : State :=
  match s.current, s.queue with
  | some c, w :: _ =>
    if c.holding = .write ∧ c.phase.mayComplete = true then endWrite false w.burst.words s else s
  | _, _ => s

/-- R139: WRITE_COMPLETION. -/
def execWriteCompletion (s : State) : Outcome := whenLive s completeWrite

/-- R140: the current owner read completes with the words not yet captured. -/
def completeRead (data : List Word) (s : State) : State :=
  match s.current, s.read with
  | some c, some x =>
    if c.holding = .read ∧ c.phase.mayComplete = true ∧
        x.buffer.length + data.length = x.burst.words then
      endRead false x.burst.words (x.buffer ++ data) s
    else s
  | _, _ => s

/-- R140: READ_COMPLETION. -/
def execReadCompletion (data : List Word) (s : State) : Outcome := whenLive s (completeRead data)

/-- R155: the current probe completes; a word the engine has already captured stands. -/
def completeProbe (w : Word) (s : State) : State :=
  match s.current with
  | some c =>
    match c.holding with
    | .probe t =>
      match s.probe t with
      | some x => if c.phase.mayComplete then endProbe t (some (x.captured.getD w)) s else s
      | none => s
    | _ => s
  | none => s

/-- R155: PROBE_COMPLETION. -/
def execProbeCompletion (w : Word) (s : State) : Outcome := whenLive s (completeProbe w)

/-- R142: the current write times out after `taken` more words. -/
def timeOutWrite (taken : Nat) (s : State) : State :=
  match s.current, s.queue with
  | some c, w :: _ =>
    if c.holding = .write ∧ c.phase.mayTimeOut taken = true ∧ c.taken + taken < w.burst.words then
      endWrite true (c.taken + taken) s
    else s
  | _, _ => s

/-- R142: WRITE_TIMEOUT. -/
def execWriteTimeout (taken : Nat) (s : State) : Outcome := whenLive s (timeOutWrite taken)

/-- R143: the current owner read times out after `taken` more words, which are not returned. -/
def timeOutRead (taken : Nat) (s : State) : State :=
  match s.current, s.read with
  | some c, some x =>
    if c.holding = .read ∧ c.phase.mayTimeOut taken = true ∧ c.taken + taken < x.burst.words then
      endRead true (c.taken + taken) [] s
    else s
  | _, _ => s

/-- R143: READ_TIMEOUT. -/
def execReadTimeout (taken : Nat) (s : State) : Outcome := whenLive s (timeOutRead taken)

/-- R144: the current probe times out. -/
def timeOutProbe (s : State) : State :=
  match s.current with
  | some c =>
    match c.holding with
    | .probe t => if c.phase.mayTimeOut 0 then endProbe t none s else s
    | _ => s
  | none => s

/-- R144: PROBE_TIMEOUT. -/
def execProbeTimeout (s : State) : Outcome := whenLive s timeOutProbe

/-! ### Reference periods (R135, R136) -/

/-- The number of words of the current access. -/
def State.currentWords (s : State) (h : Holding) : Nat :=
  match h with
  | .write =>
    match s.queue with
    | w :: _ => w.burst.words
    | [] => 0
  | .read =>
    match s.read with
    | some x => x.burst.words
    | none => 0
  | .probe _ => 1

/-- R135: the engine captures TD31-TD0 for a read or a probe. -/
def capture (h : Holding) (w : Word) (s : State) : State :=
  match h with
  | .write => s
  | .read =>
    match s.read with
    | some x => { s with read := some { x with buffer := x.buffer ++ [w] } }
    | none => s
  | .probe t =>
    match s.probe t with
    | some x => s.setProbe t (some { x with captured := some w })
    | none => s

/-- R135: a sample that finds TRDY high: the word is taken; the next word begins, or the access ends. -/
def takeWord (c : Current) (w : Word) (s : State) : State :=
  let s1 := capture c.holding w s
  let c1 := { c with taken := c.taken + 1 }
  { s1 with
    current := some
      { c1 with
        phase := if c1.taken < s.currentWords c.holding then .word c.waitStates c.readyTimeout
                 else .ending false } }

/-- R138: the end step of the current access after its end period. -/
def endCurrent (c : Current) (timedOut : Bool) (s : State) : State :=
  match c.holding with
  | .write => endWrite timedOut c.taken s
  | .read =>
    match s.read with
    | some x => endRead timedOut c.taken (if timedOut then [] else x.buffer) s
    | none => s
  | .probe t =>
    match s.probe t with
    | some x => endProbe t (if timedOut then none else x.captured) s
    | none => s

/-- R135, R136: one reference period of the current access; `trdy` and `td` are what the target does in
it. -/
def enginePeriod (trdy : Bool) (td : Word) (s : State) : State :=
  match s.current with
  | none => s
  | some c =>
    match c.phase with
    | .setup => { s with current := some { c with phase := .word c.waitStates c.readyTimeout } }
    | .word (w + 1) n => { s with current := some { c with phase := .word w n } }
    | .word 0 n =>
      if trdy then takeWord c td s
      else if n ≤ 1 then { s with current := some { c with phase := .ending true } }
      else { s with current := some { c with phase := .word 0 (n - 1) } }
    | .ending timedOut => endCurrent c timedOut s

end Sys2Proof.Machine
end

