-- ==== Sys2Proof/Machine/Grant.lean ====
section
/-! DEFINITION. The grant unit (02): OPEN, CANCEL, TICKET_READ and WAIT_EXPIRED. -/

namespace Sys2Proof.Machine

/-- R29, R31: the request conflicts with an occupying entry or with an entry of the wait list. -/
def State.conflictsAny (s : State) (c : Claim) : Bool :=
  s.conflictsOccupying none c || s.waitList.any fun w => w.claim.conflicts c

/-- R29: the entry in which a fresh OPEN is granted at once, if it is grantable. -/
def State.openEntry (s : State) (c : Claim) : Option EntryIx :=
  if (s.target c.target).state.inService && !s.conflictsAny c then s.freeEntry else none

/-- R30: the port's lowest-numbered slot that is NONE. -/
def State.freeSlot (s : State) (p : Port) : Option Slot :=
  ([0, 1] : List Slot).find? fun k => s.ticket p k == .unused

/-- R30: the wait limit; 0 is none. -/
def waitLimit (limit : BitVec 16) : Option Nat := if limit.toNat = 0 then none else some limit.toNat

/-- R30: an OPEN with WAIT set that is not grantable. -/
def queueOpen (p : Port) (c : Claim) (limit : BitVec 16) (s : State) : State :=
  match s.freeSlot p with
  | none => respond p .ticketsFull [] s
  | some k =>
    if Config.waitListDepth ≤ s.waitList.length then respond p .waitlistFull [] s
    else
      let s1 := s.setTicket p k .waiting
      let w : Waiter := { port := p, slot := k, claim := c, remaining := waitLimit limit, due := false }
      respond p .queued [byteOf k, byteOf s.waitList.length] { s1 with waitList := s1.waitList ++ [w] }

/-- R31: the refusal of an OPEN with WAIT clear that is not grantable. -/
def State.openRefusal (s : State) (c : Claim) : Status :=
  if s.conflictsAny c then .conflict
  else if (s.target c.target).state = .probing then .notReady
  else .directoryFull

/-- R27, R28: checks 2 to 4; either the refusal, or the target of the request. -/
def State.openTarget (s : State) (p : Port) (w : Window) : Except Status TargetIx :=
  match s.targetOfWindow w with
  | none => .error .unmapped
  | some t =>
    if (s.target t).state = .offline then .error .targetDown
    else if s.charge p = s.quota p then .error .quota
    else .ok t

/-- R29 to R31: checks 5 to 7 of a request whose target is known. -/
def decideOpen (p : Port) (c : Claim) (wait : Bool) (limit : BitVec 16) (s : State) : State :=
  match s.openEntry c with
  | some i =>
    respond p .ok [byteOf i, (s.nextHandle i).generation] (grantLease i p c s)
  | none =>
    if wait then queueOpen p c limit s else respond p (s.openRefusal c) [] s

/-- R26 to R31: OPEN with its seven checks. -/
def takeOpen (p : Port) (base count : BitVec 16) (cls wait : Byte) (limit : BitVec 16) (s : State) :
    State :=
  match windowOf 256 base count, classOf cls, waitFlagOf wait with
  | some w, some c, some f =>
    match s.openTarget p w with
    | .error st => respond p st [] s
    | .ok t => decideOpen p { target := t, window := w, cls := c } f limit s
  | _, _, _ => respond p .badArgument [] s

/-- R29: OPEN. -/
def execOpen (p : Port) (s : State) : Outcome :=
  whenLive s fun s =>
    match s.handed p with
    | some (.openLease base count cls wait limit) => takeOpen p base count cls wait limit s
    | _ => s

/-- R39: CANCEL on a ticket, answered with its record as it stood. -/
def takeCancel (p : Port) (slot : Byte) (s : State) : State :=
  match indexOf 2 slot with
  | none => respond p .badArgument [] s
  | some k =>
    match s.ticket p k with
    | .waiting =>
      respond p .ok (ticketRecord s p k) (scan ((dropWaiter p k s).setTicket p k .unused))
    | .granted _ => respond p .tooLate (ticketRecord s p k) (s.setTicket p k .unused)
    | .refused _ => respond p .tooLate (ticketRecord s p k) (s.setTicket p k .unused)
    | .unused => respond p .wrongState (ticketRecord s p k) s

/-- R39: CANCEL. -/
def execCancel (p : Port) (s : State) : Outcome :=
  whenLive s fun s =>
    match s.handed p with
    | some (.cancel slot) => takeCancel p slot s
    | _ => s

/-- R41: TICKET_READ. -/
def takeTicketRead (p : Port) (slot : Byte) (s : State) : State :=
  match indexOf 2 slot with
  | none => respond p .badArgument [] s
  | some k =>
    respond p .ok (ticketRecord s p k)
      (if (s.ticket p k).attends then s.setTicket p k .unused else s)

/-- R41: TICKET_READ. -/
def execTicketRead (p : Port) (s : State) : Outcome :=
  whenLive s fun s =>
    match s.handed p with
    | some (.ticketRead slot) => takeTicketRead p slot s
    | _ => s

/-- R37: the wait limit of a request has expired at its tick. -/
def takeWaitExpiry (p : Port) (k : Slot) (s : State) : State :=
  match s.waiterAt p k with
  | none => s
  | some w =>
    if w.due then scan ((dropWaiter p k s).setTicket p k (.refused .waitExpired)) else s

/-- R37: WAIT_EXPIRED. -/
def execWaitExpired (p : Port) (k : Slot) (s : State) : Outcome := whenLive s (takeWaitExpiry p k)

end Sys2Proof.Machine
end

