-- ==== Sys2Proof/Machine/Lease.lean ====
section
/-! DEFINITION. The lease commands (01, 03, 04, 05): RENEW, CLOSE, PARK, UNPARK, RESHAPE, STATUS and
ACK_REVOKE, the term boundary, and the two ends of a drain. -/

namespace Sys2Proof.Machine

/-! ### The checks of a command that names a handle (R8 to R10) -/

/-- The commands of R10's table. -/
inductive HandleCommand where
  | renew | close | park | unpark | reshape | status | ackRevoke | revoke | purge
deriving DecidableEq, Repr

/-- The outcomes of R10's table. -/
inductive StateCheck where
  | taken | wrongState | tooLate
deriving DecidableEq, Repr

/-- R10: the outcome of the state check. DESIGN CHOICE (log 26): R162 lists STATUS among the commands that a
tombstone of a lost target answers TOO_LATE, where R10, which it cites, R21, R83 and R161 have it taken; the
model takes it. -/
def HandleCommand.check : HandleCommand → LeaseState → StateCheck
  | .renew, .held => .taken
  | .renew, .parked => .taken
  | .renew, .closing => .wrongState
  | .renew, _ => .tooLate
  | .close, .held => .taken
  | .close, .parked => .taken
  | .close, .closing => .wrongState
  | .close, _ => .tooLate
  | .park, .held => .taken
  | .park, .parked => .wrongState
  | .park, .closing => .wrongState
  | .park, _ => .tooLate
  | .unpark, .held => .wrongState
  | .unpark, .parked => .taken
  | .unpark, .closing => .wrongState
  | .unpark, _ => .tooLate
  | .reshape, .held => .wrongState
  | .reshape, .parked => .taken
  | .reshape, .closing => .wrongState
  | .reshape, _ => .tooLate
  | .status, _ => .taken
  | .ackRevoke, .revoked _ => .taken
  | .ackRevoke, .revoking _ _ => .tooLate
  | .ackRevoke, _ => .wrongState
  | .revoke, .held => .taken
  | .revoke, .parked => .taken
  | .revoke, .closing => .wrongState
  | .revoke, _ => .tooLate
  | .purge, .revoked _ => .taken
  | .purge, _ => .wrongState

/-- R9: REVOKE and PURGE ignore the holder; the lease commands do not. -/
def HandleCommand.testsHolder : HandleCommand → Bool
  | .revoke => false
  | .purge => false
  | _ => true

/-- R8 to R10: the four checks, in their order, of a command of port `p`; `inRange` says that its other
arguments are in range. A command that passes acts on the entry and its lease. -/
def withHandle (p : Port) (cmd : HandleCommand) (inRange : Bool) (h : RawHandle)
    (act : EntryIx → Lease → State → State) (s : State) : State :=
  match indexOf 32 h.index with
  | none => respond p .badArgument [] s
  | some i =>
    if inRange = false then respond p .badArgument [] s
    else
      match s.lease i with
      | none => respond p .staleHandle [] s
      | some l =>
        if (s.entry i).generation ≠ h.generation then respond p .staleHandle [] s
        else if cmd.testsHolder = true ∧ l.holder ≠ p then respond p .notHolder [] s
        else
          match cmd.check l.state with
          | .taken => act i l s
          | .wrongState => respond p .wrongState l.state.refusalBytes s
          | .tooLate => respond p .tooLate l.state.refusalBytes s

/-! ### RENEW (R55, R56) -/

/-- R55: the balance byte and the two bytes of the interval remaining. -/
def renewBytes (balance : Int) (l : Lease) : List Byte := [balanceByte balance] ++ word16 l.interval

/-- R55, R56: the sum is compared with +8. -/
def actRenew (p : Port) (n : Nat) (i : EntryIx) (l : Lease) (s : State) : State :=
  if l.balance + n ≤ 8 then
    respond p .ok (renewBytes (l.balance + n) l) (s.setLease i (some { l with balance := l.balance + n }))
  else respond p .creditFull (renewBytes l.balance l) s

/-- R55: RENEW. -/
def execRenew (p : Port) (s : State) : Outcome :=
  whenLive s fun s =>
    match s.handed p with
    | some (.renew h n) =>
      withHandle p .renew (decide (1 ≤ n.toNat ∧ n.toNat ≤ 8)) h (actRenew p n.toNat) s
    | _ => s

/-! ### CLOSE (R73, R74) -/

/-- R73, R74: the entry goes to CLOSING, and on to FREE with its answer if nothing is outstanding; else
the CLOSE stays in hand. -/
def actClose (p : Port) (i : EntryIx) (l : Lease) (s : State) : State :=
  let s1 := (refuseStalledUnder i .leaseRetiring s).setLease i (l.beginDrain .closing)
  if l.outstanding = 0 then scan (respond p .ok [0x00, 0x00] s1) else holdClose p i l.outstanding s1

/-- R73: CLOSE. -/
def execClose (p : Port) (s : State) : Outcome :=
  whenLive s fun s =>
    match s.handed p with
    | some (.close h) => withHandle p .close true h (actClose p) s
    | _ => s

/-! ### PARK and UNPARK (R61, R65) -/

/-- R61, R63: the state goes to PARKED; a write stalled under the entry is refused. -/
def actPark (p : Port) (i : EntryIx) (l : Lease) (s : State) : State :=
  respond p .ok [byteOf l.outstanding, balanceByte l.balance]
    ((refuseStalledUnder i .leaseParked s).setLease i (some { l with state := .parked }))

/-- R61: PARK. -/
def execPark (p : Port) (s : State) : Outcome :=
  whenLive s fun s =>
    match s.handed p with
    | some (.park h) => withHandle p .park true h (actPark p) s
    | _ => s

/-- R65: the state goes to HELD. The target's test is passed by every PARKED entry (R4; log 15). -/
def actUnpark (p : Port) (i : EntryIx) (l : Lease) (s : State) : State :=
  respond p .ok ([balanceByte l.balance] ++ word16 l.interval)
    (s.setLease i (some { l with state := .held }))

/-- R65: UNPARK. -/
def execUnpark (p : Port) (s : State) : Outcome :=
  whenLive s fun s =>
    match s.handed p with
    | some (.unpark h) => withHandle p .unpark true h (actUnpark p) s
    | _ => s

/-! ### RESHAPE (R67 to R71) -/

/-- R71: the five result bytes. -/
def reshapeBytes (w : Window) (c : LeaseClass) : List Byte :=
  word16 w.base ++ word16 w.count ++ [c.code]

/-- R67: checks 5 to 7, then R71: the window and class are replaced and a scan follows. -/
def actReshape (p : Port) (w : Window) (c : LeaseClass) (i : EntryIx) (l : Lease) (s : State) : State :=
  let claim : Claim := { target := l.claim.target, window := w, cls := c }
  if l.outstanding ≠ 0 then respond p .inFlight [byteOf l.outstanding] s
  else if (s.span l.claim.target).any w.inside = false then respond p .unmapped [] s
  else if s.conflictsOccupying (some i) claim = true then respond p .conflict [] s
  else scan (respond p .ok (reshapeBytes w c) (s.setLease i (some { l with claim := claim })))

/-- R67: RESHAPE. -/
def takeReshape (p : Port) (h : RawHandle) (base count : BitVec 16) (cls : Byte) (s : State) : State :=
  match windowOf 256 base count, classOf cls with
  | some w, some c => withHandle p .reshape true h (actReshape p w c) s
  | _, _ => respond p .badArgument [] s

/-- R67: RESHAPE. -/
def execReshape (p : Port) (s : State) : Outcome :=
  whenLive s fun s =>
    match s.handed p with
    | some (.reshape h base count cls) => takeReshape p h base count cls s
    | _ => s

/-! ### STATUS and ACK_REVOKE (R21, R84) -/

/-- R21: the record as it stands; EXPIRY_NEAR and WRITE_LOST are removed. -/
def actStatus (p : Port) (i : EntryIx) (l : Lease) (s : State) : State :=
  respond p .ok (entryRecord i (s.entry i))
    (s.setLease i (some { l with marks := { l.marks with expiryNear := false, writeLost := false } }))

/-- R21: STATUS. -/
def execStatus (p : Port) (s : State) : Outcome :=
  whenLive s fun s =>
    match s.handed p with
    | some (.status h) => withHandle p .status true h (actStatus p) s
    | _ => s

/-- R84: the tombstone is freed, with its reason and marks as they stood. -/
def actAckRevoke (p : Port) (i : EntryIx) (l : Lease) (s : State) : State :=
  scan (respond p .ok [reasonByte l.state.reason, l.marks.byte] (s.setLease i none))

/-- R84: ACK_REVOKE. -/
def execAckRevoke (p : Port) (s : State) : Outcome :=
  whenLive s fun s =>
    match s.handed p with
    | some (.ackRevoke h) => withHandle p .ackRevoke true h (actAckRevoke p) s
    | _ => s

/-! ### Term boundaries (R50 to R53) -/

/-- R50, R51: a boundary that draws on the balance. -/
def Lease.drawn (l : Lease) (term : Nat) : Lease :=
  { l with
    balance := l.balance - 1
    interval := term
    boundaryDue := false
    marks := { l.marks with expiryNear := l.marks.expiryNear || decide (l.balance - 1 = -6) } }

/-- R50, R52, R53: the boundary of an entry whose countdown has reached zero. -/
def takeBoundary (i : EntryIx) (s : State) : State :=
  match s.lease i with
  | none => s
  | some l =>
    if l.boundaryDue then
      let term := (s.settings l.claim.target).term
      match l.state with
      | .held =>
        if -8 < l.balance then s.setLease i (some (l.drawn term))
        else
          scanIf (decide (l.outstanding = 0)) (revokeEntry i .expired { l with interval := 0 } s)
      | .parked => s.setLease i (some { l with interval := term, boundaryDue := false })
      | _ => s
    else s

/-- R50: TERM_BOUNDARY. -/
def execTermBoundary (i : EntryIx) (s : State) : Outcome := whenLive s (takeBoundary i)

/-! ### The ends of a drain (R74, R77) -/

/-- R74: CLOSING_DRAIN_END. The step whose fall of the count ends the drain contains this (R138). -/
def takeClosingDrainEnd (i : EntryIx) (s : State) : State :=
  match s.lease i with
  | none => s
  | some l => if l.state = .closing ∧ l.outstanding = 0 then scan (endDrain i l 0x00 s) else s

/-- R74: CLOSING_DRAIN_END. -/
def execClosingDrainEnd (i : EntryIx) (s : State) : Outcome := whenLive s (takeClosingDrainEnd i)

/-- R77: REVOKING_DRAIN_END. The step whose fall of the count ends the drain contains this (R138). -/
def takeRevokingDrainEnd (i : EntryIx) (s : State) : State :=
  match s.lease i with
  | none => s
  | some l =>
    match l.state with
    | .revoking _ _ => if l.outstanding = 0 then scan (endDrain i l 0x00 s) else s
    | _ => s

/-- R77: REVOKING_DRAIN_END. -/
def execRevokingDrainEnd (i : EntryIx) (s : State) : Outcome := whenLive s (takeRevokingDrainEnd i)

end Sys2Proof.Machine
end

