-- ==== Sys2Proof/Machine/Clock.lean ====
section
/-! DEFINITION. The tick divider (03): TICK, and the reference period that passes when no command waits. -/

namespace Sys2Proof.Machine

/-- R47, R48: a running countdown takes the tick, or (at its last tick) becomes due. -/
def Lease.ticked (l : Lease) : Lease :=
  if l.running then
    if l.interval ≤ 1 then { l with boundaryDue := true } else { l with interval := l.interval - 1 }
  else l

/-- R48: the countdown of an entry. -/
def Entry.ticked (e : Entry) : Entry := { e with lease := e.lease.map Lease.ticked }

/-- R37: the wait timer of a request. -/
def Waiter.ticked (w : Waiter) : Waiter :=
  match w.remaining with
  | none => w
  | some r => if r ≤ 1 then { w with due := true } else { w with remaining := some (r - 1) }

/-- R47: a timer of the arbiter. -/
def Timer.ticked (t : Timer) : Timer :=
  if t.running then
    if t.count ≤ 1 then { t with due := true } else { t with count := t.count - 1 }
  else t

/-- R45, R46: the divider starts again from zero, with a pending setting in force. -/
def Clock.ticked (c : Clock) : Clock :=
  { count := 0, k := c.pendingK.getD c.k, pendingK := none }

/-- R45: the tick is delivered to every tick-counted timer. -/
def deliverTick (s : State) : State :=
  { s with
    entries := vmap Entry.ticked s.entries
    waitList := s.waitList.map Waiter.ticked
    arb := { s.arb with holdTimer := s.arb.holdTimer.ticked, graceTimer := s.arb.graceTimer.ticked }
    clock := s.clock.ticked }

/-- Every ticket slot. -/
def allSlots : List (Port × Slot) :=
  [(0, 0), (0, 1), (1, 0), (1, 1), (2, 0), (2, 1), (3, 0), (3, 1), (4, 0), (4, 1), (5, 0), (5, 1)]

/-- R37, R47, R50, R103, R106: every expiry that is due is taken, in this order (log 4). -/
def settleExpiries (s : State) : State :=
  let s1 := allEntries.foldl (fun s i => takeBoundary i s) s
  let s2 := allSlots.foldl (fun s x => takeWaitExpiry x.1 x.2 s) s1
  takePreemption (takeHoldExpiry s2)

/-- R45: a tick. Expiries of the tick before that no command has taken are taken first (log 4). -/
def takeTick (s : State) : State := deliverTick (settleExpiries s)

/-- R45: TICK. DESIGN CHOICE (log 24): the command stands for the passing of what is left of the tick in
progress, so that it produces the tick at any count of the divider, which starts again from zero; the
engine does not move meanwhile. -/
def execTick (s : State) : Outcome := whenLive s takeTick

/-- R45: the divider counts one reference period. At the tick length it produces the tick, and the expiries
of that tick are taken at once, since no command waits to take them (R37, R47; log 4). -/
def dividerPeriod (s : State) : State :=
  if Config.tickLength s.clock.k ≤ s.clock.count + 1 then settleExpiries (takeTick s)
  else { s with clock := { s.clock with count := s.clock.count + 1 } }

/-- One period of REFCLK with no command waiting (log 2): the expiries that a TICK left due and no command
has taken (log 4), the engine's period, with what the targets do in it (log 3), then the divider's. While
RESET is low nothing moves (R183). -/
def refPeriod (s : State) : State :=
  if s.resetLow then s
  else
    dividerPeriod (enginePeriod (Config.trdy s.periods) (Config.targetWord s.periods)
      (settleExpiries { s with periods := s.periods + 1 }))

end Sys2Proof.Machine
end

