-- ==== Sys2Proof/Machine/Link.lean ====
section
/-! DEFINITION. The port link units (10): FIRST_BYTE_CLOCKED, REQUEST_TRANSFER, READ_TRANSFER, and the two
commands that the unit takes itself with their frame, ATTENTION and FAULT_READ. -/

namespace Sys2Proof.Machine

/-- R169: the frame a read transfer will drive, from the link state at that moment. -/
def LinkState.chosen : LinkState → Option Response
  | .responseReady r => some r
  | _ => none

/-- R165, R169: the first byte of a transfer decides its kind; while PRSTn is low the transfer is ignored
(R168). DESIGN CHOICE (log 7): PRSTn is looked at when the first whole byte has been clocked, so that a
transfer whose LSELn fell while PRSTn was low is taken as usual if PRSTn is high again by then. -/
def takeFirstByte (p : Port) (b : Byte) (s : State) : State :=
  let u := s.link p
  match u.transfer with
  | .idle =>
    s.setLink p { u with
      transfer :=
        if u.prstLow then .ignored
        else if b = 0x00 then .read u.link.chosen false
        else .request b }
  | _ => s

/-- R169: FIRST_BYTE_CLOCKED. -/
def execFirstByteClocked (p : Port) (b : Byte) (s : State) : Outcome := whenLive s (takeFirstByte p b)

/-- R180: ATTENTION is answered and LINK_OVERRUN cleared. -/
def answerAttention (p : Port) (tag : Byte) (s : State) : State :=
  s.setLink p { s.link p with
    link := .responseReady { tag := tag, status := .ok, results := attentionRecord s p }
    overrun := false }

/-- R129: FAULT_READ is answered and the record becomes invalid. -/
def answerFaultRead (p : Port) (tag : Byte) (s : State) : State :=
  s.setLink p { s.link p with
    link := .responseReady { tag := tag, status := .ok, results := faultBytes (s.link p).fault }
    fault := FaultRecord.invalid }

/-- R167: a frame on an IDLE link is refused by the unit, taken by the unit itself, or becomes the
command in hand. -/
def takeFrame (p : Port) (frame : List Byte) (part : Bool) (s : State) : State :=
  match decodeFrame p part frame with
  | .error st =>
    s.setLink p { s.link p with
      link := .responseReady { tag := frameTag frame, status := st, results := [] } }
  | .ok .attention => answerAttention p (frameTag frame) s
  | .ok .faultRead => answerFaultRead p (frameTag frame) s
  | .ok r =>
    s.setLink p { s.link p with
      link := .command { tag := frameTag frame, request := r, closing := none } }

/-- R165, R168: the transfer is over; these levels were presented on LDOn. -/
def endTransfer (p : Port) (driven : List Bool) (s : State) : State :=
  s.setLink p { s.link p with transfer := .idle, driven := driven }

/-- R165: LDOn is high at every clock. -/
def idleBits (n : Nat) : List Bool := List.replicate n Config.idleLevel

/-- R167, R168: a request frame on the link: taken if IDLE, else discarded with LINK_OVERRUN. -/
def takeRequest (p : Port) (bits : List Bool) (s : State) : State :=
  let s1 := endTransfer p (idleBits bits.length) s
  match (s.link p).link with
  | .idle => takeFrame p (bytesOf bits) (partByte bits) s1
  | _ => s1.setLink p { s1.link p with overrun := true }

/-- R165, R167, R168: a request transfer ends. One with no whole byte changes nothing; one on a link whose
PRSTn is low, or that a reset has made ignored, is neither taken nor discarded. -/
def endRequestTransfer (p : Port) (bits : List Bool) (s : State) : State :=
  let u := s.link p
  match u.transfer with
  | .ignored => endTransfer p (idleBits bits.length) s
  | .read _ _ => s
  | .request b => if (bytesOf bits).head? = some b then takeRequest p bits s else s
  | .idle =>
    if bytesOf bits = [] then s
    else if u.prstLow then endTransfer p (idleBits bits.length) s
    else takeRequest p bits s

/-- R165, R167: REQUEST_TRANSFER. -/
def execRequestTransfer (p : Port) (first rest : List Bool) (s : State) : Outcome :=
  if frameIsRequest (bytesOf (first ++ rest)) then whenLive s (endRequestTransfer p (first ++ rest))
  else .refused .illFormed

/-- R169: what a read transfer presents on LDOn: high during the first byte, then the frame, then high; at
the clocks after a reset has cut it, high (log 7). -/
def drivenBits (chosen : Option Response) (cut : Bool) (clocks beforeCut : Nat) : List Bool :=
  idleBits 8 ++ (List.range clocks).map fun n =>
    if cut = true ∧ beforeCut ≤ n then Config.idleLevel else ldoBit chosen n

/-- R165, R169: the response is consumed if the transfer chose it and clocked out every byte of it. -/
def LinkState.afterRead (chosen : Option Response) (cut : Bool) (clocks : Nat) : LinkState → LinkState
  | .responseReady r =>
    match chosen with
    | some x => if cut = false ∧ x.bytes.length ≤ clocks / 8 then .idle else .responseReady r
    | none => .responseReady r
  | x => x

/-- R169: the end of a read transfer that chose this frame. -/
def takeReadEnd (p : Port) (chosen : Option Response) (cut : Bool) (clocks beforeCut : Nat) (s : State) :
    State :=
  let s1 := endTransfer p (drivenBits chosen cut clocks beforeCut) s
  s1.setLink p { s1.link p with link := (s1.link p).link.afterRead chosen cut clocks }

/-- R168, R169: a read transfer ends. -/
def endReadTransfer (p : Port) (clocks beforeCut : Nat) (s : State) : State :=
  let u := s.link p
  match u.transfer with
  | .ignored => endTransfer p (idleBits (8 + clocks)) s
  | .request _ => s
  | .read chosen cut => takeReadEnd p chosen cut clocks beforeCut s
  | .idle =>
    if u.prstLow then endTransfer p (idleBits (8 + clocks)) s
    else takeReadEnd p u.link.chosen false clocks beforeCut s

/-- R169: READ_TRANSFER. -/
def execReadTransfer (p : Port) (clocks beforeCut : Nat) (s : State) : Outcome :=
  if beforeCut ≤ clocks then whenLive s (endReadTransfer p clocks beforeCut) else .refused .illFormed

/-- R180: ATTENTION, the whole step in which the unit takes its frame (log 6). -/
def execAttention (p : Port) (tag : Byte) (s : State) : Outcome :=
  whenLive s (endRequestTransfer p (bitsOf (encodeRequest tag .attention)))

/-- R129: FAULT_READ, the whole step in which the unit takes its frame (log 6). -/
def execFaultRead (p : Port) (tag : Byte) (s : State) : Outcome :=
  whenLive s (endRequestTransfer p (bitsOf (encodeRequest tag .faultRead)))

end Sys2Proof.Machine
end

