-- ==== Sys2Proof/Machine/Supervisor.lean ====
section
/-! DEFINITION. The supervisor's directory commands and settings (01, 03, 05): SET_QUOTA, SET_TIMEBASE,
REVOKE, both forms of PURGE, DIRECTORY_CLEAR and DIRECTORY_READ. -/

namespace Sys2Proof.Machine

/-- R18: SET_QUOTA. -/
def takeSetQuota (port quota : Byte) (s : State) : State :=
  match indexOf 6 port with
  | none => respond supervisorPort .badArgument [] s
  | some p =>
    if quota.toNat < 1 ∨ 32 < quota.toNat then respond supervisorPort .badArgument [] s
    else if quota.toNat < s.charge p then
      respond supervisorPort .inUse [port, byteOf (s.quota p), byteOf (s.charge p)] s
    else
      respond supervisorPort .ok [port, quota, byteOf (s.charge p)]
        { s with quotas := s.quotas.set p quota.toNat }

/-- R18: SET_QUOTA. -/
def execSetQuota (s : State) : Outcome :=
  whenLive s fun s =>
    match s.handed supervisorPort with
    | some (.setQuota port quota) => takeSetQuota port quota s
    | _ => s

/-- R46: SET_TIMEBASE. -/
def takeSetTimebase (k : Byte) (s : State) : State :=
  if 10 < k.toNat then respond supervisorPort .badArgument [] s
  else
    respond supervisorPort .ok [byteOf s.clock.k, k]
      { s with clock := { s.clock with pendingK := some k.toNat } }

/-- R46: SET_TIMEBASE. -/
def execSetTimebase (s : State) : Outcome :=
  whenLive s fun s =>
    match s.handed supervisorPort with
    | some (.setTimebase k) => takeSetTimebase k s
    | _ => s

/-- R79: the three result bytes: holder, state and outstanding count after the command. -/
def revokeBytes (l : Lease) : List Byte :=
  [byteOf l.holder, if l.outstanding = 0 then 0x05 else 0x04, byteOf l.outstanding]

/-- R79: the lease is revoked with reason SUPERVISOR. -/
def actRevoke (i : EntryIx) (l : Lease) (s : State) : State :=
  respond supervisorPort .ok (revokeBytes l)
    (scanIf (decide (l.outstanding = 0)) (revokeEntry i .supervisor l s))

/-- R79: REVOKE. -/
def execRevoke (s : State) : Outcome :=
  whenLive s fun s =>
    match s.handed supervisorPort with
    | some (.revoke h) => withHandle supervisorPort .revoke true h actRevoke s
    | _ => s

/-- R85: the tombstone is freed. -/
def actPurge (i : EntryIx) (l : Lease) (s : State) : State :=
  scan (respond supervisorPort .ok [byteOf l.holder, reasonByte l.state.reason] (s.setLease i none))

/-- R85: PURGE in its handle form. -/
def execPurgeHandle (s : State) : Outcome :=
  whenLive s fun s =>
    match s.handed supervisorPort with
    | some (.purgeHandle h) => withHandle supervisorPort .purge true h actPurge s
    | _ => s

/-- R83: a tombstone of the port. -/
def Lease.isTombstoneOf (p : Port) (l : Lease) : Bool :=
  match l.state with
  | .revoked _ => l.holder == p
  | _ => false

/-- R86: a tombstone of the port goes to FREE. -/
def Entry.purged (p : Port) (e : Entry) : Entry :=
  match e.lease with
  | some l => if l.isTombstoneOf p then { e with lease := none } else e
  | none => e

/-- R86: PURGE in its port form. -/
def takePurgePort (port : Byte) (s : State) : State :=
  match indexOf 6 port with
  | none => respond supervisorPort .badArgument [] s
  | some p =>
    let n := s.countLeases (·.isTombstoneOf p)
    respond supervisorPort .ok [port, byteOf n]
      (scanIf (decide (0 < n)) { s with entries := vmap (Entry.purged p) s.entries })

/-- R86: PURGE in its port form. -/
def execPurgePort (s : State) : Outcome :=
  whenLive s fun s =>
    match s.handed supervisorPort with
    | some (.purgePort port) => takePurgePort port s
    | _ => s

/-- R81: every HELD and PARKED entry is revoked with reason CLEARED. -/
def Entry.cleared (e : Entry) : Entry :=
  match e.lease with
  | some l => if l.running then { e with lease := l.revoke .cleared } else e
  | none => e

/-- R81, R122: a write stalled under an entry that is revoked is refused. -/
def refuseStalledCleared (s : State) : State :=
  match s.stalled with
  | none => s
  | some w => if (s.lease w.handle.index).any (·.running) then refuseStalled .leaseRetiring s else s

/-- R81: the three result bytes. -/
def clearBytes (s : State) : List Byte :=
  [byteOf (s.countLeases (·.running)),
    byteOf (s.countLeases fun l => l.running && decide (l.outstanding ≠ 0)), byteOf s.waitList.length]

/-- R43, R81: DIRECTORY_CLEAR. -/
def takeDirectoryClear (s : State) : State :=
  let s1 := refuseStalledCleared s
  let s2 := { s1 with entries := vmap Entry.cleared s1.entries }
  respond supervisorPort .ok (clearBytes s) (scan (refuseWaiters (fun _ => true) .cleared s2))

/-- R81: DIRECTORY_CLEAR. -/
def execDirectoryClear (s : State) : Outcome :=
  whenLive s fun s =>
    match s.handed supervisorPort with
    | some .directoryClear => takeDirectoryClear s
    | _ => s

/-- R22: DIRECTORY_READ. -/
def takeDirectoryRead (index : Byte) (s : State) : State :=
  match indexOf 32 index with
  | none => respond supervisorPort .badArgument [] s
  | some i => respond supervisorPort .ok (entryRecord i (s.entry i)) s

/-- R22: DIRECTORY_READ. -/
def execDirectoryRead (s : State) : Outcome :=
  whenLive s fun s =>
    match s.handed supervisorPort with
    | some (.directoryRead index) => takeDirectoryRead index s
    | _ => s

end Sys2Proof.Machine
end

