-- ==== Sys2Proof/Machine/Reset.lean ====
section
/-! DEFINITION. The resets (05, 11): POWER_ON, RESET_RELEASE, PRST_LOW, PRST_RELEASE and PORT_RESET. -/

namespace Sys2Proof.Machine

/-! ### Power-on (R183, R184) -/

/-- R183: POWER_ON. Every block takes its power-on values; the queue of commands and the model's counter
of reference periods stand outside the part. -/
def execPowerOn (s : State) : Outcome :=
  .next { State.inReset with periods := s.periods, pending := s.pending }

/-- R184: a port link unit at the release: a transfer under way is ignored to its end; a PRSTn low is a
port reset, which finds nothing. -/
def LinkUnit.atRelease (lselLow prstLow : Bool) (u : LinkUnit) : LinkUnit :=
  { u with transfer := if lselLow then .ignored else .idle, prstLow := prstLow }

/-- R184: the lines of one port are looked at. -/
def releasePort (v : Levels) (s : State) (p : Port) : State :=
  { (s.setRequesting p { s.requesting p with trq := v.trqHigh[p] }) with
    links := s.links.set p ((s.link p).atRelease v.lselLow[p] v.prstLow[p]) }

/-- R184: RESET_RELEASE. With RESET not low there is nothing to release. -/
def execResetRelease (v : Levels) (s : State) : Outcome :=
  .next (if s.resetLow then allPorts.foldl (releasePort v) { s with resetLow := false } else s)

/-! ### Port reset (R88 to R92, R112, R126) -/

/-- R89: what becomes of a lease of the port; none is FREE. -/
def Lease.portReset (l : Lease) : Option Lease :=
  let l1 : Lease := { l with marks := {} }
  match l.state with
  | .held => l1.revoke .portReset
  | .parked => l1.revoke .portReset
  | .closing => some l1
  | .revoking r _ => some { l1 with state := .revoking r true }
  | .revoked _ => none

/-- R89: an entry of the directory. -/
def Entry.portReset (p : Port) (e : Entry) : Entry :=
  match e.lease with
  | some l => if l.holder = p then { e with lease := l.portReset } else e
  | none => e

/-- R44: the port's wait-list entries leave the list. -/
def removeWaiters (p : Port) (s : State) : State :=
  { s with waitList := s.waitList.filter fun w => !(w.port == p) }

/-- R169: a read transfer that was driving the buffered frame reads FFH from now on. -/
def Transfer.afterPortReset : Transfer → Transfer
  | .read (some r) _ => .read (some r) true
  | x => x

/-- R90: the port link unit. -/
def LinkUnit.portReset (u : LinkUnit) : LinkUnit :=
  { u with
    link := .idle
    overrun := false
    transfer := u.transfer.afterPortReset
    tickets := Vector.replicate 2 .unused
    fault := FaultRecord.invalid }

/-- R112, R126: the arbiter, and the access in hand of the owner. -/
def resetRequester (p : Port) (s : State) : State :=
  match s.requester p with
  | .idle => s
  | .waiting => s.setRequester p .idle
  | .preempted => s.setRequester p .idle
  | .owner => loseGrant p .idle (endInHand true s)
  | .yielding => loseGrant p .idle (endInHand true s)

/-- R88: a port reset of either source, in one step, with one scan after all its changes (R89). -/
def portReset (p : Port) (s : State) : State :=
  let s1 := resetRequester p s
  let s2 := removeWaiters p { s1 with entries := vmap (Entry.portReset p) s1.entries }
  scan (s2.setLink p (s2.link p).portReset)

/-- R168: a transfer under way when PRSTn falls is ignored. -/
def Transfer.afterPrst (selected : Bool) : Transfer → Transfer
  | .idle => if selected then .ignored else .idle
  | .request _ => .ignored
  | .read r _ => .read r true
  | .ignored => .ignored

/-- R88: PRSTn goes low; the reset is taken once. -/
def takePrstLow (p : Port) (selected : Bool) (s : State) : State :=
  if (s.link p).prstLow then s
  else
    let s1 := portReset p s
    s1.setLink p { s1.link p with
      prstLow := true
      transfer := (s1.link p).transfer.afterPrst selected }

/-- R88: PRST_LOW. -/
def execPrstLow (p : Port) (selected : Bool) (s : State) : Outcome :=
  whenLive s (takePrstLow p selected)

/-- R88: PRST_RELEASE. A transfer whose LSELn fell while PRSTn was low, with no whole byte clocked yet, is
taken as usual from here (DESIGN CHOICE, log 7). -/
def execPrstRelease (p : Port) (s : State) : Outcome :=
  whenLive s fun s => s.setLink p { s.link p with prstLow := false }

/-- R88: an entry of the port that is HELD or PARKED. -/
def Lease.liveOf (p : Port) (l : Lease) : Bool := l.running && l.holder == p

/-- R88: an entry of the port that is CLOSING or REVOKING. -/
def Lease.drainingOf (p : Port) (l : Lease) : Bool := l.draining && l.holder == p

/-- R88: PORT_RESET of ports 1 to 5, with its five result bytes. -/
def takePortReset (port : Byte) (s : State) : State :=
  match indexOf 6 port with
  | none => respond supervisorPort .badArgument [] s
  | some p =>
    if p = supervisorPort then respond supervisorPort .badArgument [] s
    else
      let s1 := portReset p s
      respond supervisorPort .ok
        [port, byteOf (s.countLeases (·.liveOf p)), byteOf (s.countLeases (·.isTombstoneOf p)),
          byteOf (s1.countLeases (·.drainingOf p)), byteOf (s.waitList.countP fun w => w.port == p)] s1

/-- R88: PORT_RESET. -/
def execPortReset (s : State) : Outcome :=
  whenLive s fun s =>
    match s.handed supervisorPort with
    | some (.portReset port) => takePortReset port s
    | _ => s

end Sys2Proof.Machine
end

