-- ==== Sys2Proof/Machine/Dispatch.lean ====
section
/-! DEFINITION. One arm for each command: the meaning it calls. -/

namespace Sys2Proof.Machine

def exec (i : Instr) (s : State) : Host.Outcome State Fault Refusal :=
  match i with
  | .powerOn => Sys2Proof.Machine.execPowerOn s
  | .resetRelease v => Sys2Proof.Machine.execResetRelease v s
  | .prstLow p sel => Sys2Proof.Machine.execPrstLow p sel s
  | .prstRelease p => Sys2Proof.Machine.execPrstRelease p s
  | .requestTransfer p f b => Sys2Proof.Machine.execRequestTransfer p f b s
  | .readTransfer p n k => Sys2Proof.Machine.execReadTransfer p n k s
  | .openLease p => Sys2Proof.Machine.execOpen p s
  | .renew p => Sys2Proof.Machine.execRenew p s
  | .close p => Sys2Proof.Machine.execClose p s
  | .park p => Sys2Proof.Machine.execPark p s
  | .unpark p => Sys2Proof.Machine.execUnpark p s
  | .reshape p => Sys2Proof.Machine.execReshape p s
  | .status p => Sys2Proof.Machine.execStatus p s
  | .ackRevoke p => Sys2Proof.Machine.execAckRevoke p s
  | .cancel p => Sys2Proof.Machine.execCancel p s
  | .ticketRead p => Sys2Proof.Machine.execTicketRead p s
  | .attention p t => Sys2Proof.Machine.execAttention p t s
  | .faultRead p t => Sys2Proof.Machine.execFaultRead p t s
  | .configureTarget => Sys2Proof.Machine.execConfigureTarget s
  | .releaseTarget => Sys2Proof.Machine.execReleaseTarget s
  | .targetStatus => Sys2Proof.Machine.execTargetStatus s
  | .setQuota => Sys2Proof.Machine.execSetQuota s
  | .setPriority => Sys2Proof.Machine.execSetPriority s
  | .setHold => Sys2Proof.Machine.execSetHold s
  | .setTimebase => Sys2Proof.Machine.execSetTimebase s
  | .revoke => Sys2Proof.Machine.execRevoke s
  | .purgeHandle => Sys2Proof.Machine.execPurgeHandle s
  | .purgePort => Sys2Proof.Machine.execPurgePort s
  | .directoryClear => Sys2Proof.Machine.execDirectoryClear s
  | .portReset => Sys2Proof.Machine.execPortReset s
  | .directoryRead => Sys2Proof.Machine.execDirectoryRead s
  | .tick => Sys2Proof.Machine.execTick s
  | .termBoundary e => Sys2Proof.Machine.execTermBoundary e s
  | .waitExpired p k => Sys2Proof.Machine.execWaitExpired p k s
  | .holdExpiry => Sys2Proof.Machine.execHoldExpiry s
  | .preemption => Sys2Proof.Machine.execPreemption s
  | .trqRise p => Sys2Proof.Machine.execTrqRise p s
  | .trqFall p => Sys2Proof.Machine.execTrqFall p s
  | .access a x => Sys2Proof.Machine.execAccess a x s
  | .brokenWrite a b n => Sys2Proof.Machine.execBrokenWrite a b n s
  | .stalledWriteAdmission => Sys2Proof.Machine.execStalledWriteAdmission s
  | .accessStart => Sys2Proof.Machine.execAccessStart s
  | .writeCompletion => Sys2Proof.Machine.execWriteCompletion s
  | .readCompletion d => Sys2Proof.Machine.execReadCompletion d s
  | .probeCompletion w => Sys2Proof.Machine.execProbeCompletion w s
  | .writeTimeout n => Sys2Proof.Machine.execWriteTimeout n s
  | .readTimeout n => Sys2Proof.Machine.execReadTimeout n s
  | .probeTimeout => Sys2Proof.Machine.execProbeTimeout s
  | .closingDrainEnd e => Sys2Proof.Machine.execClosingDrainEnd e s
  | .revokingDrainEnd e => Sys2Proof.Machine.execRevokingDrainEnd e s
  | .firstByteClocked p b => Sys2Proof.Machine.execFirstByteClocked p b s

end Sys2Proof.Machine
end

