-- ==== Sys2Proof/Machine/Step.lean ====
section
/-! DEFINITION. The step of the part: the command at the front of the queue acts; with no command waiting
one reference period passes (log 2). -/

namespace Sys2Proof.Machine

/-- One step. -/
def step (s : State) : Host.Outcome State Fault Refusal :=
  match s.pending with
  | [] => .next (refPeriod s)
  | c :: rest => exec c { s with pending := rest }

/-- A word of the opcode table spells no command (`decodeTableWord`), so that this changes nothing. -/
def State.withFetchWord (s : State) (nbits w : Nat) : State :=
  match decodeTableWord nbits w with
  | some c => { s with pending := c :: s.pending }
  | none => s

end Sys2Proof.Machine
end

