-- ==== Sys2Proof/Safety.lean ====
section
/-! DEFINITION. The words that statements about the part are written in: what a command in hand and a
handle name, what a step leaves unchanged, and the laws that the spec says always hold. -/

namespace Sys2Proof.Machine

/-! ### Premises -/

/-- No expiry of a tick stands due (log 4). -/
def NothingDue (s : State) : Prop :=
  (∀ i l, s.lease i = some l → l.boundaryDue = false) ∧ (∀ w, w ∈ s.waitList → w.due = false) ∧
    s.arb.holdTimer.due = false ∧ s.arb.graceTimer.due = false

/-- The engine's reference periods with these levels of TRDY and these words on TD31-TD0, in their order. -/
def enginePeriods (inputs : List (Bool × Word)) (s : State) : State :=
  inputs.foldl (fun s x => enginePeriod x.1 x.2 s) s

/-- The row that is the end step of an access in its end period, which has taken its words or timed out. -/
def endRow : Holding → Bool → Instr
  | .write, false => .writeCompletion
  | .write, true => .writeTimeout 0
  | .read, false => .readCompletion []
  | .read, true => .readTimeout 0
  | .probe _, false => .probeCompletion 0
  | .probe _, true => .probeTimeout

/-- R166, R167: the request `r`, sent with this tag, is in hand at port `p` and its block has not taken
it. -/
abbrev InHandIs (s : State) (p : Port) (tag : Byte) (r : Request) : Prop :=
  (s.link p).link = .command { tag := tag, request := r, closing := none }

/-- R8: the handle is valid: it names entry `i`, which holds lease `l` at the handle's generation. -/
abbrev Names (s : State) (h : RawHandle) (i : EntryIx) (l : Lease) : Prop :=
  h.index.toNat = i.val ∧ s.entry i = { generation := h.generation, lease := some l }

/-- R4, R48: the entry is HELD or PARKED. -/
abbrev HeldOrParked (l : Lease) : Prop := l.state = .held ∨ l.state = .parked

/-- The row by which the block that owns a request takes it from the port's command in hand (R175); none
for the two that the port link unit takes itself. -/
def rowOf (p : Port) : Request → Option Instr
  | .openLease .. => some (.openLease p)
  | .renew .. => some (.renew p)
  | .close .. => some (.close p)
  | .park .. => some (.park p)
  | .unpark .. => some (.unpark p)
  | .reshape .. => some (.reshape p)
  | .status .. => some (.status p)
  | .ackRevoke .. => some (.ackRevoke p)
  | .cancel .. => some (.cancel p)
  | .ticketRead .. => some (.ticketRead p)
  | .attention => none
  | .faultRead => none
  | .configureTarget .. => some .configureTarget
  | .releaseTarget .. => some .releaseTarget
  | .targetStatus .. => some .targetStatus
  | .setQuota .. => some .setQuota
  | .setPriority .. => some .setPriority
  | .setHold .. => some .setHold
  | .setTimebase .. => some .setTimebase
  | .revoke .. => some .revoke
  | .purgeHandle .. => some .purgeHandle
  | .purgePort .. => some .purgePort
  | .directoryClear => some .directoryClear
  | .portReset .. => some .portReset
  | .directoryRead .. => some .directoryRead

/-- R10: the requests that name a handle: their command, the handle, and whether their other arguments
are in range (R3, R55). -/
def handleFormOf : Request → Option (HandleCommand × RawHandle × Bool)
  | .renew h n => some (.renew, h, decide (1 ≤ n.toNat ∧ n.toNat ≤ 8))
  | .close h => some (.close, h, true)
  | .park h => some (.park, h, true)
  | .unpark h => some (.unpark, h, true)
  | .reshape h base count cls =>
    some (.reshape, h, (windowOf 256 base count).isSome && (classOf cls).isSome)
  | .status h => some (.status, h, true)
  | .ackRevoke h => some (.ackRevoke, h, true)
  | .revoke h => some (.revoke, h, true)
  | .purgeHandle h => some (.purge, h, true)
  | _ => none

/-- R167, R177: the request can be in hand at the port: a supervisor command only at P0. -/
abbrev SentBy (p : Port) (r : Request) : Prop := r.opcode.supervisor = true → p = supervisorPort

/-- R116: for port `p`, which owns the bus, check 3, 4, 5, 6, 7 or 8 is the first that an access of this
direction to this page fails; with the reason, handle and target of its fault (R128). -/
def AdmissionFails (s : State) (p : Port) (page : Nat) (d : Dir) (r : FaultReason) (h : Option Handle)
    (t : Option TargetIx) : Prop :=
  (s.targetOfPage page = none ∧ r = .unmapped ∧ h = none ∧ t = none) ∨
  ∃ u, s.targetOfPage page = some u ∧ t = some u ∧
    (((s.target u).state.inService = false ∧ r = .targetDown ∧ h = none) ∨
     ((s.target u).state.inService = true ∧
       ((s.selected p page = none ∧ r = .noLease ∧ h = none) ∨
        ∃ i g l, s.selected p page = some i ∧ s.entry i = { generation := g, lease := some l } ∧
          h = some { index := i, generation := g } ∧
          ((l.state = .parked ∧ r = .leaseParked) ∨
           (l.draining = true ∧ r = .leaseRetiring) ∨
           (l.state = .held ∧ l.claim.cls = .sharedRead ∧ d = .write ∧ r = .readOnly)))))

/-- R116, R118, R119: an access of port `p` passes every check, under entry `i` with lease `l`, at target
`t`. -/
abbrev AdmissionPasses (s : State) (p : Port) (page : Nat) (d : Dir) (i : EntryIx) (l : Lease)
    (t : TargetIx) : Prop :=
  s.targetOfPage page = some t ∧ (s.target t).state.inService = true ∧ s.selected p page = some i ∧
    s.lease i = some l ∧ l.state = .held ∧ (d = .write → l.claim.cls = .exclusive)

/-- R165, R167: the IDLE link of port `p` takes a request frame that begins with this byte, whether its
first byte is still to come or has been clocked. -/
abbrev LinkTakes (s : State) (p : Port) (first : Byte) : Prop :=
  s.resetLow = false ∧ (s.link p).link = .idle ∧
    (((s.link p).transfer = .idle ∧ (s.link p).prstLow = false) ∨ (s.link p).transfer = .request first)

/-- R175: the argument lengths of the command code table, row by row; no length for a byte that is no
opcode. -/
def listedLengths (op : Byte) : List Nat :=
  match op.toNat with
  | 0x01 => [8]
  | 0x02 => [3]
  | 0x03 => [2]
  | 0x04 => [2]
  | 0x05 => [2]
  | 0x06 => [7]
  | 0x07 => [2]
  | 0x08 => [2]
  | 0x09 => [1]
  | 0x0A => [1]
  | 0x0B => [0]
  | 0x0C => [0]
  | 0x20 => [18]
  | 0x21 => [1]
  | 0x22 => [1]
  | 0x23 => [2]
  | 0x24 => [2]
  | 0x25 => [4]
  | 0x26 => [1]
  | 0x27 => [2]
  | 0x28 => [2, 1]
  | 0x29 => [0]
  | 0x2A => [1]
  | 0x2B => [1]
  | _ => []

/-- R26 to R28: an OPEN with these arguments passes its first three checks, with this claim. -/
abbrev OpenFinds (s : State) (base count : BitVec 16) (cls wait : Byte) (c : Claim) (f : Bool) : Prop :=
  windowOf 256 base count = some c.window ∧ classOf cls = some c.cls ∧ waitFlagOf wait = some f ∧
    s.targetOfWindow c.window = some c.target ∧ (s.target c.target).state ≠ .offline

/-- R29: the claim is not grantable to a fresh OPEN. -/
abbrev NotGrantable (s : State) (c : Claim) : Prop :=
  (s.target c.target).state.inService = false ∨ s.conflictsAny c = true ∨ ∀ i, s.lease i ≠ none

/-- R122: the stalled write, if there is one, does not stand under entry `i`. -/
abbrev NotStalledUnder (s : State) (i : EntryIx) : Prop :=
  ∀ w, s.stalled = some w → w.handle.index ≠ i

/-- R6: entry `i` is the lowest-numbered FREE entry. -/
abbrev LowestFree (s : State) (i : EntryIx) : Prop := s.lease i = none ∧ ∀ j, j < i → s.lease j ≠ none

/-- R6: the lease of a grant at this moment. -/
abbrev grantedLease (s : State) (p : Port) (c : Claim) : Lease :=
  { state := .held, holder := p, claim := c, balance := 0
    interval := (s.settings c.target).term, boundaryDue := false, outstanding := 0, marks := {} }

/-- The lease of an entry taken out of HELD or PARKED, or moved on in its drain: only its state, and what
stops with it, is new. -/
abbrev Lease.movedTo (l : Lease) (st : LeaseState) : Lease := { l with state := st, boundaryDue := false }

/-- R77: the tombstone that a drained lease leaves. -/
abbrev Lease.tombstone (l : Lease) (r : RevokeReason) : Lease :=
  { l.movedTo (.revoked r) with marks := { l.marks with revoked := true } }

/-- R2, R23, R24, R45, R95, R96, R98, R110, R111, R127, R130, R148, R166: the power-on values of every
block. -/
def PowerOnValues (s : State) : Prop :=
  (∀ i, s.entry i = { generation := 0x00, lease := none }) ∧
  s.quota 0 = 32 ∧ (∀ p, p ≠ 0 → s.quota p = 8) ∧
  s.waitList = [] ∧
  (∀ p, (s.link p).link = .idle ∧ (s.link p).overrun = false ∧
    (∀ k, s.ticket p k = .unused) ∧ (s.link p).fault = { fault := none, further := false }) ∧
  s.clock = { count := 0, k := 4, pendingK := none } ∧
  (∀ p, s.requester p = .idle ∧ (s.requesting p).level = (if p = 0 then 3 else 1) ∧
    (s.requesting p).hold = 0 ∧ (s.requesting p).grace = 8) ∧
  s.arb.bus = .free ∧ (∀ lv : Fin 4, s.arb.pointers[lv] = 5) ∧ s.arb.recent = none ∧
  s.arb.inForce = none ∧ s.arb.holdTimer.running = false ∧ s.arb.graceTimer.running = false ∧
  s.arb.overdue = false ∧
  s.stalled = none ∧ s.queue = [] ∧ s.read = none ∧ (∀ t, s.probe t = none) ∧ s.current = none ∧
  ∀ t, s.target t = { state := .unconfigured, settings := none, probeResult := none, timeouts := 0,
                      lastFault := .none }

/-- R183: every output line of the part is at its level under RESET: LDOn high, whatever clocks come. -/
def OutputsInactive (s : State) : Prop :=
  (∀ p, s.tgr p = false ∧ s.tyd p = false ∧ s.attn p = false ∧ s.rdy p = false) ∧
    (∀ p n, s.ldo p n = true) ∧ s.answer = none ∧ (∀ t, s.tcsLow t = false) ∧ s.td = none ∧ s.twr = false

/-! ### What a step leaves unchanged -/

/-- The parts of the state, one for each field. -/
inductive Part where
  | resetLow | directory | quotas | waitList | links | clock | arbiter | stalled | answer | queue | read
  | probes | current | lastEnd | targets | periods | pending
deriving DecidableEq, Repr

/-- A part is the same in two states. -/
def Part.same (s t : State) : Part → Prop
  | .resetLow => t.resetLow = s.resetLow
  | .directory => t.entries = s.entries
  | .quotas => t.quotas = s.quotas
  | .waitList => t.waitList = s.waitList
  | .links => t.links = s.links
  | .clock => t.clock = s.clock
  | .arbiter => t.arb = s.arb
  | .stalled => t.stalled = s.stalled
  | .answer => t.answer = s.answer
  | .queue => t.queue = s.queue
  | .read => t.read = s.read
  | .probes => t.probes = s.probes
  | .current => t.current = s.current
  | .lastEnd => t.lastEnd = s.lastEnd
  | .targets => t.targets = s.targets
  | .periods => t.periods = s.periods
  | .pending => t.pending = s.pending

/-- Every part but those listed is the same. -/
def KeepsAllBut (may : List Part) (s t : State) : Prop := ∀ x : Part, x ∉ may → x.same s t

/-- Every entry but `i` is the same. -/
def EntriesBut (i : EntryIx) (s t : State) : Prop := ∀ j, j ≠ i → t.entry j = s.entry j

/-- Every port link unit but that of `p` is the same. -/
def LinksBut (p : Port) (s t : State) : Prop := ∀ q, q ≠ p → t.link q = s.link q

/-- Every target record but that of `u` is the same. -/
def TargetsBut (u : TargetIx) (s t : State) : Prop := ∀ v, v ≠ u → t.target v = s.target v

/-- What the arbiter holds for every port but `p` is the same. -/
def RequestersBut (p : Port) (s t : State) : Prop := ∀ q, q ≠ p → t.requesting q = s.requesting q

/-- Entry `i` becomes `e`, and no other entry changes. -/
def EntryBecomes (i : EntryIx) (e : Entry) (s t : State) : Prop := t.entry i = e ∧ EntriesBut i s t

/-- R170: the command in hand at port `p` is answered with this status and these results, and nothing else
changes in any port link unit. -/
def Answered (p : Port) (tag : Byte) (st : Status) (results : List Byte) (s t : State) : Prop :=
  t.link p = { s.link p with
    link := .responseReady { tag := tag, status := st, results := results } } ∧ LinksBut p s t

/-- R128: a fault is entered in the record of port `p`, and nothing else changes in any port link unit. -/
def FaultEntered (p : Port) (f : AccessFault) (s t : State) : Prop :=
  t.link p = { s.link p with fault := (s.link p).fault.enter f } ∧ LinksBut p s t

/-- R122: a write stalled under entry `i` has been refused with this reason: IERR, a fault of its port, and
nothing else; with no write stalled under the entry nothing has changed. -/
def StalledRefused (i : EntryIx) (r : FaultReason) (s v : State) : Prop :=
  (NotStalledUnder s i → v = s) ∧
  ∀ w, s.stalled = some w → w.handle.index = i →
    v.stalled = none ∧ v.answer = some { acks := 0, ierr := true, words := [] } ∧
    FaultEntered w.port { reason := r, access := some (w.address, .write), handle := some w.handle
                          target := some w.target } s v ∧
    KeepsAllBut [.links, .stalled, .answer] s v

/-- R47, R101, R106, R112: the grant of port `p` is lost, and what the arbiter holds for the port is `q`: the
bus is FREE, or in HANDOVER with the pending read's cycle lost; the timers stop, the hold timer at its count
and the grace timer at `grace`, and no values are in force. The arbitration that follows finds this state. -/
def GrantLost (p : Port) (q : Requesting) (grace : Nat) (s v : State) : Prop :=
  v.requesting p = q ∧ RequestersBut p s v ∧
  v.arb = { s.arb with
    ports := v.arb.ports
    bus := if s.read = none then .free else .handover
    inForce := none
    holdTimer := { s.arb.holdTimer with running := false, due := false }
    graceTimer := { count := grace, running := false, due := false }
    overdue := false } ∧
  v.read = s.read.map (fun x => if x.port = p then { x with deliver := false } else x)

/-- R74, R77: what an end of an access leaves of a lease whose count it has brought to this: a CLOSING or
REVOKING lease with nothing left outstanding has drained. -/
def Lease.afterEnd (m : Lease) : Option Lease :=
  match m.state with
  | .closing => if m.outstanding = 0 then none else some m
  | .revoking r b =>
    if m.outstanding ≠ 0 then some m
    else if r = .portReset ∨ b = true then none
    else some { m with state := .revoked r, marks := { m.marks with revoked := true } }
  | _ => some m

/-- R74: the link of a port when entry `i` reaches FREE: its CLOSE, if it waits in hand, is answered with the
count it found and end code 00H. -/
def LinkState.closed (i : EntryIx) (k : LinkState) : LinkState :=
  match k with
  | .command { tag := tag, request := _, closing := some w } =>
    if w.index = i then .responseReady { tag := tag, status := .ok, results := [byteOf w.found, 0x00] }
    else k
  | _ => k

/-- R12, R74, R77: an access under entry `i`, with lease `l`, has ended, and `lost` adds WRITE_LOST; the
fault records become `faults`. -/
def Finished (i : EntryIx) (g : Byte) (l : Lease) (lost : Bool) (faults : Port → FaultRecord)
    (s u : State) : Prop :=
  u.current = none ∧
  EntryBecomes i
    { generation := g
      lease := Lease.afterEnd { l with
        outstanding := l.outstanding - 1
        marks := { l.marks with writeLost := l.marks.writeLost || lost } } } s u ∧
  ∀ q, u.link q = { s.link q with
    fault := faults q
    link := if l.state = .closing ∧ l.outstanding = 1 ∧ q = l.holder then (s.link q).link.closed i
      else (s.link q).link }

/-- R89: what a port reset makes of a lease of the port. -/
def ResetLease (l : Lease) (after : Option Lease) : Prop :=
  let bare : Lease := { l with marks := {} }
  (HeldOrParked l → after = if l.outstanding = 0 then none
    else some (bare.movedTo (.revoking .portReset false))) ∧
  (l.state = .closing → after = some bare) ∧
  (∀ r b, l.state = .revoking r b → after = some { bare with state := .revoking r true }) ∧
  ∀ r, l.state = .revoked r → after = none

/-- R44, R89, R90, R112, R126: what a port reset of port `p` makes of `s`, before its one scan. -/
def PortResetMakes (p : Port) (s u : State) : Prop :=
  (∀ i, (u.entry i).generation = (s.entry i).generation) ∧
  (∀ i, s.lease i = none → u.lease i = none) ∧
  (∀ i l, s.lease i = some l → l.holder ≠ p → u.lease i = some l) ∧
  (∀ i l, s.lease i = some l → l.holder = p → ResetLease l (u.lease i)) ∧
  u.waitList = s.waitList.filter (fun w => w.port != p) ∧
  LinksBut p s u ∧
  u.link p = { s.link p with
    link := .idle
    overrun := false
    transfer := (u.link p).transfer
    tickets := (u.link p).tickets
    fault := { fault := none, further := false } } ∧
  (∀ k, u.ticket p k = .unused) ∧
  (∀ r cut, (s.link p).transfer = .read (some r) cut → (u.link p).transfer = .read (some r) true) ∧
  ((∀ r cut, (s.link p).transfer ≠ .read (some r) cut) → (u.link p).transfer = (s.link p).transfer) ∧
  u.requester p = .idle ∧
  (∀ q, (u.requesting q).level = (s.requesting q).level ∧ (u.requesting q).hold = (s.requesting q).hold ∧
    (u.requesting q).grace = (s.requesting q).grace ∧ (u.requesting q).trq = (s.requesting q).trq) ∧
  (s.tgr p = false → u.requesting p = { s.requesting p with req := .idle } ∧ RequestersBut p s u ∧
    u.arb = { s.arb with ports := u.arb.ports } ∧ u.read = s.read ∧ u.stalled = s.stalled ∧
    u.answer = s.answer) ∧
  (s.tgr p = true →
    (∃ v, GrantLost p { s.requesting p with req := .idle } s.arb.graceTimer.count s v ∧ u.arb = (arbitrate v).arb ∧
      u.read = v.read) ∧
    (s.inHand = true → u.stalled = none ∧ u.answer = some { acks := 0, ierr := true, words := [] }) ∧
    (s.inHand = false → u.stalled = s.stalled ∧ u.answer = s.answer)) ∧
  KeepsAllBut [.directory, .waitList, .links, .arbiter, .stalled, .answer, .read] s u

/-! ### Laws -/

/-- R131, R23: the posted write queue and the wait list keep their sizes. -/
def Capacity (s : State) : Prop :=
  s.queue.length ≤ Config.queueDepth ∧ s.waitList.length ≤ Config.waitListDepth

/-- R1, R3, R148: a base page and a page count of 1 to `most`, with a last page of at most FFFH. -/
def Window.InRange (w : Window) (most : Nat) : Prop := 1 ≤ w.count ∧ w.count ≤ most ∧ w.last ≤ 0xFFF

/-- R1, R3, R49: the ranges of a lease's fields. -/
def Lease.InRange (l : Lease) : Prop :=
  -8 ≤ l.balance ∧ l.balance ≤ 8 ∧ l.claim.window.InRange 256 ∧ l.interval ≤ 65535

/-- R148: the ranges of a target's settings; a probe address is word-aligned and inside the span. -/
def Settings.InRange (x : Settings) : Prop :=
  x.span.InRange 4096 ∧ x.waitStates ≤ 15 ∧ 16 ≤ x.readyTimeout ∧ x.readyTimeout ≤ 4096 ∧
    x.readyTimeout % 16 = 0 ∧ 1 ≤ x.term ∧ x.term ≤ 65535 ∧
    ∀ y, x.probe = some y → y.address.toNat % 4 = 0 ∧ x.span.base ≤ y.address.toNat / 4096 ∧
      y.address.toNat / 4096 ≤ x.span.last

/-- R1, R23, R45, R49, R110, R111, R148: the fields of the records lie in the ranges of their tables. -/
def FieldsInRange (s : State) : Prop :=
  (∀ i l, s.lease i = some l → l.InRange) ∧
  (∀ w, w ∈ s.waitList → w.claim.window.InRange 256 ∧ ∀ r, w.remaining = some r → 1 ≤ r ∧ r ≤ 65535) ∧
  (∀ t x, (s.target t).settings = some x → x.InRange) ∧
  (∀ t, (s.target t).timeouts ≤ 2) ∧
  (∀ p, (s.requesting p).hold ≤ 4095 ∧ 1 ≤ (s.requesting p).grace ∧ (s.requesting p).grace ≤ 255) ∧
  s.clock.k ≤ 10 ∧ ∀ k, s.clock.pendingK = some k → k ≤ 10

/-- R5: no two occupying entries have conflicting windows. -/
def NoConflicts (s : State) : Prop :=
  ∀ i j li lj, i ≠ j → s.lease i = some li → s.lease j = some lj → li.occupying = true →
    lj.occupying = true → li.claim.conflicts lj.claim = false

/-- R94, R96, R98, R132: the bus is OWNED by exactly the port that is OWNER or YIELDING; a FREE bus has no
pending read and no WAITING port; HANDOVER stands while a read whose cycle is lost is pending; a read or
write in hand is the bus owner's. -/
def BusLaw (s : State) : Prop :=
  (∀ p, s.tgr p = true ↔ s.arb.bus = .owned p) ∧
  (s.arb.bus = .free → s.read = none ∧ ∀ p, s.requester p ≠ .waiting) ∧
  (s.arb.bus = .handover ↔ ∃ x, s.read = some x ∧ x.deliver = false) ∧
  (∀ x, s.read = some x → x.deliver = true → s.arb.bus = .owned x.port) ∧
  ∀ w, s.stalled = some w → s.arb.bus = .owned w.port

/-- R23: the number of wait-list entries of a ticket. -/
def State.waitersOf (s : State) (p : Port) (k : Slot) : Nat :=
  s.waitList.countP fun w => w.port == p && w.slot == k

/-- R23: there is exactly one wait-list entry for each WAITING ticket and none for any other ticket. -/
def TicketLaw (s : State) : Prop :=
  ∀ p k, s.waitersOf p k = if s.ticket p k = .waiting then 1 else 0

/-- R17: the charge of a port does not exceed its quota, which is 1 to 32. -/
def ChargeLaw (s : State) : Prop :=
  ∀ p, s.charge p ≤ s.quota p ∧ 1 ≤ s.quota p ∧ s.quota p ≤ 32

/-- A claim lies in the span of its target. -/
def InSpan (s : State) (c : Claim) : Prop :=
  ∃ span, s.span c.target = some span ∧ c.window.inside span = true

/-- R4: the target of every occupying entry is READY or SUSPECT and its span holds the entry's window;
R23, R42: so does the span of every waiting request's target. -/
def TargetLaw (s : State) : Prop :=
  (∀ i l, s.lease i = some l → l.occupying = true →
    (s.target l.claim.target).state.inService = true ∧ InSpan s l.claim) ∧
  ∀ w, w ∈ s.waitList → InSpan s w.claim

/-- R148, R149: a target has settings exactly when it is not UNCONFIGURED, and no two spans in the map
overlap. -/
def MapLaw (s : State) : Prop :=
  (∀ t, (s.target t).settings = none ↔ (s.target t).state = .unconfigured) ∧
  ∀ t u a b, t ≠ u → s.span t = some a → s.span u = some b → a.overlaps b = false

/-- R133, R151: a probe slot is filled exactly while its target is PROBING. -/
def ProbeLaw (s : State) : Prop :=
  ∀ t, (s.probe t).isSome = true ↔ (s.target t).state = .probing

/-- R130: the current access is an access that the engine holds. -/
def State.holds (s : State) : Holding → Prop
  | .write => s.queue ≠ []
  | .read => s.read ≠ none
  | .probe t => s.probe t ≠ none

/-- R130: the engine is IDLE only when it holds nothing, and what is current is one of its holdings. -/
def EngineLaw (s : State) : Prop :=
  (s.current = none → s.queue = [] ∧ s.read = none ∧ ∀ t, s.probe t = none) ∧
  ∀ c, s.current = some c → s.holds c.holding

/-- The number of accesses in the engine that are tagged with an entry. -/
def State.tagged (s : State) (i : EntryIx) : Nat :=
  (s.queue.countP fun w => w.handle.index == i) + if s.read.any (fun x => x.handle.index == i) then 1 else 0

/-- A handle of the engine names the live grant of its entry, on this target. -/
def HandleLive (s : State) (h : Handle) (t : TargetIx) : Prop :=
  ∃ l, s.entry h.index = { generation := h.generation, lease := some l } ∧ l.claim.target = t

/-- R12, R77, R121: the outstanding count of an entry is the number of accesses in the engine tagged with
it; it is 0 in a tombstone and not 0 in an entry that drains; every handle in the engine names the grant it
was admitted under; a stalled write stands under a HELD entry of the port that issued it. -/
def OutstandingLaw (s : State) : Prop :=
  (∀ i, s.lease i = none → s.tagged i = 0) ∧
  (∀ i l, s.lease i = some l → l.outstanding = s.tagged i ∧ (l.occupying = false → l.outstanding = 0) ∧
    (l.draining = true → l.outstanding ≠ 0)) ∧
  (∀ w, w ∈ s.queue → HandleLive s w.handle w.target) ∧
  (∀ x, s.read = some x → HandleLive s x.handle x.target) ∧
  ∀ w, s.stalled = some w → HandleLive s w.handle w.target ∧
    ∃ l, s.lease w.handle.index = some l ∧ l.state = .held ∧ l.holder = w.port

/-- R73, R74: a CLOSE that waits in hand waits on a CLOSING entry of its port. -/
def CloseLaw (s : State) : Prop :=
  ∀ p tag r c, (s.link p).link = .command { tag := tag, request := r, closing := some c } →
    ∃ l, s.lease c.index = some l ∧ l.state = .closing ∧ l.holder = p

/-- A law that every step keeps. -/
def KeptByStep (law : State → Prop) : Prop := ∀ s t, law s → step s = .next t → law t

end Sys2Proof.Machine
end

