-- ==== Sys2Proof/Certificates/Slice0/Obligations.lean ====
section
/-! DEFINITION. The statements about the part. A statement of a result concludes that the command answers a
next state, says what that state holds, and says what it keeps (`KeepsAllBut`, `EntriesBut`, `LinksBut`).
Where a step contains a scan, `u` is the state just before it and the scan's own statements say the rest. -/

open Sys2Proof Sys2Proof.Machine

/-! ### The step and the resets -/

/-- A step with a command waiting runs that command on the state with the rest of the queue. The queue of
commands is the model's (log 1). -/
def Obligations.StepRunsFrontCommand : Prop :=
  ∀ (c : Instr) (rest : List Instr) (s : State), s.pending = c :: rest →
    step s = exec c { s with pending := rest }

/-- Log 2, log 3, log 4: with no command waiting one reference period passes: what is due is taken, a target
access moves by one period, for some level of TRDY and some word, and the divider counts; at the tick length
it produces the tick (R45) and the expiries of that tick are taken with it, so that a wait limit of w ends
at the w-th tick (R37). -/
def Obligations.EmptyQueuePassesAPeriod : Prop :=
  (∀ s : State, s.pending = [] →
    (s.resetLow = true → step s = .next s) ∧
    (s.resetLow = false →
      ∃ trdy td t, enginePeriod trdy td (settleExpiries { s with periods := s.periods + 1 }) = t ∧
        (s.clock.count + 1 < 2 ^ (6 + s.clock.k) →
          step s = .next { t with clock := { s.clock with count := s.clock.count + 1 } }) ∧
        (2 ^ (6 + s.clock.k) ≤ s.clock.count + 1 →
          ∃ u, exec .tick t = .next u ∧ u.clock.count = 0 ∧ step s = .next (settleExpiries u))) ∧
    ∀ w, s.resetLow = false → w ∈ s.waitList → w.remaining = some 1 → s.waitersOf w.port w.slot = 1 →
      2 ^ (6 + s.clock.k) ≤ s.clock.count + 1 →
      ∃ t, step s = .next t ∧ (∀ x, x ∈ t.waitList → ¬ (x.port = w.port ∧ x.slot = w.slot)) ∧
        (t.ticket w.port w.slot).attends = true) ∧
  (∀ s : State, NothingDue s → settleExpiries s = s) ∧
  ∀ (s : State) (trdy : Bool) (td : Word), s.current = none → enginePeriod trdy td s = s

/-- Every command of the part completes and leaves the queue of commands alone; only a term that is no
command of the part is refused (log 10), and nothing faults. -/
def Obligations.OnlyIllFormedTermsAreRefused : Prop :=
  ∀ (c : Instr) (s : State),
    (c.wellFormed = true → ∃ t, exec c s = .next t ∧ t.pending = s.pending) ∧
    (c.wellFormed = false → exec c s = .refused .illFormed)

/-- POWER_ON sets every block to its power-on values and every output inactive (R183); the reset state of
the model has the same values with RESET released and no command waiting (log 8). -/
def Obligations.PowerOnSetsPowerOnValues : Prop :=
  (∀ s : State, ∃ t, exec .powerOn s = .next t ∧ t.resetLow = true ∧ PowerOnValues t ∧
    OutputsInactive t ∧ t.periods = s.periods ∧ t.pending = s.pending) ∧
  PowerOnValues State.reset ∧ OutputsInactive State.reset ∧ State.reset.resetLow = false ∧
  State.reset.pending = []

/-- R88, R183, R184: while RESET is low nothing but its release and POWER_ON is taken; its release takes the
lines of every port as they stand: a transfer under way is ignored, a PRSTn low stands, a TRQn high is no
request; and PRSTn returning high frees the port's link. The levels at the release are operands and a
command that comes early is dropped: the model's choice (log 9). -/
def Obligations.ResetTakesNothingButItsRelease : Prop :=
  (∀ (c : Instr) (s : State), s.resetLow = true → c.wellFormed = true → c ≠ .powerOn →
    (∀ v, c ≠ .resetRelease v) → exec c s = .next s) ∧
  (∀ (v : Levels) (s : State), s.resetLow = true →
    ∃ t, exec (.resetRelease v) s = .next t ∧ t.resetLow = false ∧
      (∀ p : Port, t.link p = { s.link p with
          transfer := if v.lselLow[p] = true then .ignored else .idle
          prstLow := v.prstLow[p] } ∧
        t.requesting p = { s.requesting p with trq := v.trqHigh[p] }) ∧
      t.arb = { s.arb with ports := t.arb.ports } ∧
      KeepsAllBut [.resetLow, .links, .arbiter] s t) ∧
  ∀ (s : State) (p : Port), s.resetLow = false →
    ∃ t, exec (.prstRelease p) s = .next t ∧ t.link p = { s.link p with prstLow := false } ∧
      LinksBut p s t ∧ KeepsAllBut [.links] s t

/-! ### Laws that every step keeps -/

/-- The state after reset has every law. -/
def Obligations.ResetHasEveryLaw : Prop :=
  Capacity State.reset ∧ FieldsInRange State.reset ∧ NoConflicts State.reset ∧ BusLaw State.reset ∧
  TicketLaw State.reset ∧ ChargeLaw State.reset ∧ TargetLaw State.reset ∧ MapLaw State.reset ∧
  ProbeLaw State.reset ∧ EngineLaw State.reset ∧ OutstandingLaw State.reset ∧ CloseLaw State.reset

/-- R23, R131 and the ranges of R1, R49, R110, R111 and R148: every step keeps the sizes of the two lists and
the fields of the records in their ranges; and an outstanding count, being the number of the engine's
accesses tagged with its entry (R12), is at most 5. -/
def Obligations.RangesAreKept : Prop :=
  (KeptByStep fun s => Capacity s ∧ FieldsInRange s) ∧
  ∀ s : State, Capacity s → OutstandingLaw s → ∀ i l, s.lease i = some l → l.outstanding ≤ 5

/-- R5: no step makes two occupying entries conflict. -/
def Obligations.NoConflictsIsKept : Prop := KeptByStep NoConflicts

/-- R96: at most one port is OWNER or YIELDING, the bus is OWNED by that port, a FREE bus has nobody
waiting, and HANDOVER stands while a read whose cycle is lost is pending. -/
def Obligations.BusLawIsKept : Prop := KeptByStep BusLaw

/-- R23, R17: one wait-list entry for each WAITING ticket and none for any other, and no port's charge
passes its quota. -/
def Obligations.TicketAndChargeLawsAreKept : Prop := KeptByStep fun s => TicketLaw s ∧ ChargeLaw s

/-- R4: every occupying entry lies in the span of a target that is READY or SUSPECT. -/
def Obligations.TargetLawIsKept : Prop := KeptByStep TargetLaw

/-- R149, R133: no two spans of the map overlap, and a probe slot is filled exactly while its target is
PROBING. -/
def Obligations.MapAndProbeLawsAreKept : Prop := KeptByStep fun s => MapLaw s ∧ ProbeLaw s

/-- R73, R74, R130, R134: the engine is IDLE only when it holds nothing, and its current access is one it
holds; a CLOSE that waits in hand waits on a CLOSING entry of its port, so that no CLOSE outlives its entry
unanswered. -/
def Obligations.EngineAndCloseLawsAreKept : Prop := KeptByStep EngineLaw ∧ KeptByStep CloseLaw

/-- R12: the outstanding count of every entry is the number of the engine's accesses tagged with it; no
tombstone has one, no draining entry is without (log 5). The laws of the bus (R96), of the targets (R4), of
the map (R149) and of the probes (R133) go with it: an access is admitted at the target of its page, and
they make that the target of its lease. -/
def Obligations.OutstandingLawIsKept : Prop :=
  KeptByStep fun s => BusLaw s ∧ TargetLaw s ∧ MapLaw s ∧ ProbeLaw s ∧ OutstandingLaw s

/-- R6, R7: in a step, except at power-on, an entry's generation stays or rises by one (FFH wrapping to 00H);
it rises only with a grant, for the new lease has the holder and the claim of a request that has left the wait
list or of the OPEN in hand; and it rises whenever a FREE entry is taken. -/
def Obligations.GenerationRisesAtGrantOnly : Prop :=
  ∀ s t : State, step s = .next t → (∀ rest, s.pending ≠ .powerOn :: rest) → ∀ i,
    ((t.entry i).generation = (s.entry i).generation ∨
      ((t.entry i).generation = (s.entry i).generation + 1 ∧
        ∃ l, t.lease i = some l ∧
          ((∃ w, w ∈ s.waitList ∧ l.holder = w.port ∧ l.claim = w.claim ∧
              t.waitersOf w.port w.slot < s.waitersOf w.port w.slot) ∨
            ∃ p rest tag base count cls wait limit f, s.pending = .openLease p :: rest ∧
              InHandIs s p tag (.openLease base count cls wait limit) ∧
              OpenFinds s base count cls wait l.claim f ∧ l.holder = p))) ∧
    (s.lease i = none → t.lease i ≠ none → (t.entry i).generation = (s.entry i).generation + 1)

/-! ### Links and frames -/

/-- R165, R167, R172 to R175, R177: bits are grouped into bytes, most significant bit first, and bits left
over are dropped; and the frame of every request that its port may send is read back as that request, with
its tag. -/
def Obligations.FramesReadBackTheirRequest : Prop :=
  (∀ (frame : List Byte) (rest : List Bool), rest.length < 8 →
    bytesOf (bitsOf frame ++ rest) = frame ∧
    partByte (bitsOf frame ++ rest) = decide (rest ≠ []) ∧
    ∀ (b : Byte) (k : Nat), k < 8 → (bitsOf (b :: frame))[k]? = some (b.getLsbD (7 - k))) ∧
  ∀ (p : Port) (tag : Byte) (r : Request), SentBy p r →
    decodeFrame p false (encodeRequest tag r) = .ok r ∧ frameTag (encodeRequest tag r) = tag

/-- R165, R167, R177: the four frame tests, in their order, on an IDLE link, in a transfer whose first byte has
been clocked as a command of its own or not (log 7): the refusal is placed as the response at once, with the
frame's tag, and nothing else changes. -/
def Obligations.FrameTestsRefuseInOrder : Prop :=
  ∀ (s : State) (p : Port) (bits : List Bool) (b : Byte), (bytesOf bits).head? = some b → b ≠ 0x00 →
    LinkTakes s p b →
    let frame := bytesOf bits
    let refused (st : Status) : Prop := ∃ t,
      (∀ first rest, first ++ rest = bits → exec (.requestTransfer p first rest) s = .next t) ∧
      t.link p = { s.link p with
        transfer := .idle
        link := .responseReady { tag := (frame[1]?).getD 0x00, status := st, results := [] }
        driven := List.replicate bits.length true } ∧
      LinksBut p s t ∧ KeepsAllBut [.links] s t
    (frame.length < 3 → refused .badFrame) ∧
    ∀ (op tag len : Byte) (args : List Byte), frame = op :: tag :: len :: args →
      (bits.length % 8 ≠ 0 ∨ args.length ≠ len.toNat → refused .badFrame) ∧
      (bits.length % 8 = 0 → args.length = len.toNat →
        (listedLengths op = [] → refused .badCommand) ∧
        (listedLengths op ≠ [] → 0x20 ≤ op.toNat → p ≠ 0 → refused .notPermitted) ∧
        (listedLengths op ≠ [] → (op.toNat < 0x20 ∨ p = 0) → args.length ∉ listedLengths op →
          refused .badArgument))

/-- R167, R168: a frame that passes becomes the command in hand of an IDLE link; on a link that is COMMAND
or RESPONSE_READY any frame is discarded and LINK_OVERRUN is set; a transfer on a link whose PRSTn is low, or
that a reset has made ignored, is neither taken nor discarded, and one with no whole byte changes nothing.
The frame of an ATTENTION or a FAULT_READ is the row of that name (log 6). How a transfer's start and end
make commands is the model's choice (log 7). -/
def Obligations.RequestTransferIsTakenOrDiscarded : Prop :=
  ∀ (s : State) (p : Port), s.resetLow = false →
    let answers (bits : List Bool) (o : Outcome) : Prop :=
      ∀ first rest, first ++ rest = bits → exec (.requestTransfer p first rest) s = o
    let ends (bits : List Bool) (u : LinkUnit) : Prop := ∃ t, answers bits (.next t) ∧
      t.link p = { u with transfer := .idle, driven := List.replicate bits.length true } ∧
      LinksBut p s t ∧ KeepsAllBut [.links] s t
    let takes (frame : List Byte) : Prop :=
      ((s.link p).transfer = .idle ∧ (s.link p).prstLow = false) ∨
        ∃ b, (s.link p).transfer = .request b ∧ frame.head? = some b
    (∀ tag r, SentBy p r → takes (encodeRequest tag r) → (s.link p).link = .idle → r ≠ .attention →
      r ≠ .faultRead →
      ends (bitsOf (encodeRequest tag r))
        { s.link p with link := .command { tag := tag, request := r, closing := none } }) ∧
    (∀ bits, bytesOf bits ≠ [] → (bytesOf bits).head? ≠ some 0x00 →
      (takes (bytesOf bits) → (s.link p).link ≠ .idle → ends bits { s.link p with overrun := true }) ∧
      ((s.link p).transfer = .idle → (s.link p).prstLow = true → ends bits (s.link p))) ∧
    (∀ bits, (bytesOf bits).head? ≠ some 0x00 → (s.link p).transfer = .ignored → ends bits (s.link p)) ∧
    (∀ bits, bits.length < 8 → (s.link p).transfer = .idle → answers bits (.next s)) ∧
    ∀ tag,
      answers (bitsOf (encodeRequest tag .attention)) (exec (.attention p tag) s) ∧
      answers (bitsOf (encodeRequest tag .faultRead)) (exec (.faultRead p tag) s)

/-- R25, R94, R128, R129, R166, R178, R180: ATTENTION reports the port's sources and clears LINK_OVERRUN;
FAULT_READ reports the fault record in its ten bytes and makes it invalid; each is answered in the step that
takes its frame. ATTNn is high exactly while one of the five sources stands, RDYn while a response waits,
TGRn while the port is OWNER or YIELDING and TYDn while it is YIELDING. That the row is the whole step of the
frame is the model's choice (log 6), and so is how a transfer makes commands (log 7). -/
def Obligations.AttentionAndFaultReadAnswer : Prop :=
  (∀ (s : State) (p : Port) (tag : Byte), LinkTakes s p 0x0B →
    ∃ t, exec (.attention p tag) s = .next t ∧
      t.link p = { s.link p with
        transfer := .idle
        link := .responseReady { tag := tag, status := .ok, results := attentionRecord s p }
        overrun := false
        driven := List.replicate 24 true } ∧
      LinksBut p s t ∧ KeepsAllBut [.links] s t) ∧
  (∀ (s : State) (p : Port) (tag : Byte) (bytes : List Byte), LinkTakes s p 0x0C →
    let record := (s.link p).fault
    let further : Byte := if record.further = true then 0x01 else 0x00
    (record.fault = none →
      bytes = [0x00, 0x00, further, 0x00, 0x00, 0x00, 0xFF, 0xFF, 0x00, 0xFF]) →
    (∀ f, record.fault = some f →
      bytes = [0x01, f.reason.code, further] ++
        (match f.access with
          | some (a, d) => [a.extractLsb' 16 8, a.extractLsb' 8 8, a.extractLsb' 0 8,
              if d = .write then 0x01 else 0x00]
          | none => [0x00, 0x00, 0x00, 0xFF]) ++
        (match f.handle with
          | some h => [byteOf h.index, h.generation]
          | none => [0xFF, 0x00]) ++
        [match f.target with
          | some u => byteOf u
          | none => 0xFF]) →
    bytes.length = 10 ∧
    ∃ t, exec (.faultRead p tag) s = .next t ∧
      t.link p = { s.link p with
        transfer := .idle
        link := .responseReady { tag := tag, status := .ok, results := bytes }
        fault := { fault := none, further := false }
        driven := List.replicate 24 true } ∧
      LinksBut p s t ∧ KeepsAllBut [.links] s t) ∧
  (∀ (s : State) (p : Port),
    (attentionRecord s p).take 5 =
      [(s.ticket p 0).code, (s.ticket p 1).code,
        if (s.link p).fault.fault = none then 0x00 else 0x01,
        if s.requester p = .yielding then 0x01 else 0x00,
        if (s.link p).overrun = true then 0x01 else 0x00] ∧
    (attentionRecord s p)[5]? = some (byteOf (allEntries.countP fun i => s.marked p i)) ∧
    ((∀ i, s.marked p i = false) → (attentionRecord s p).drop 6 = [0xFF, 0x00]) ∧
    ∀ i, s.marked p i = true → (∀ j, j < i → s.marked p j = false) →
      (attentionRecord s p).drop 6 = [byteOf i, (s.entry i).generation]) ∧
  (∀ (s : State) (p : Port),
    (s.attn p = true ↔
      (s.link p).fault.fault ≠ none ∨
      (∃ k, (∃ h, s.ticket p k = .granted h) ∨ ∃ r, s.ticket p k = .refused r) ∨
      (∃ i, s.marked p i = true) ∨ s.tyd p = true ∨ (s.link p).overrun = true) ∧
    (∀ i, s.marked p i = true ↔ ∃ l, s.lease i = some l ∧ l.holder = p ∧
      (l.marks.expiryNear = true ∨ l.marks.revoked = true ∨ l.marks.writeLost = true)) ∧
    (s.rdy p = true ↔ ∃ r, (s.link p).link = .responseReady r) ∧
    (s.tgr p = true ↔ s.requester p = .owner ∨ s.requester p = .yielding) ∧
    (s.tyd p = true ↔ s.requester p = .yielding)) ∧
  (∀ h r, [Ticket.unused, .waiting, .granted h, .refused r].map Ticket.code = [0x00, 0x01, 0x02, 0x03]) ∧
  [FaultReason.noLease, .readOnly, .leaseParked, .leaseRetiring, .unmapped, .targetDown, .targetTimeout,
      .badBurst, .preempted, .writeLost, .notOwner].map FaultReason.code =
    [0x01, 0x02, 0x03, 0x04, 0x05, 0x06, 0x07, 0x08, 0x09, 0x0A, 0x0B]

/-- R165, R168, R169, R172, R176: the first byte 00H chooses the frame that a read transfer drives, with the
header and the status codes of the tables; a read transfer that clocks out all of the buffered frame consumes
it, one that clocks out less or chose the empty frame changes nothing, and a reset that reached it cuts it.
LDOn is at the bits of the chosen frame and high after them, and high outside a read transfer, in one that is
ignored and in one that is cut. How a transfer's start and
end make commands, and what a byte under way at a cut reads, is the model's choice (log 7). -/
def Obligations.ReadTransferDrivesAndConsumes : Prop :=
  (∀ r : Response, r.bytes = [r.tag, r.status.code, byteOf r.results.length] ++ r.results) ∧
  [Status.none, .ok, .queued, .badFrame, .badCommand, .badArgument, .notPermitted, .staleHandle, .notHolder,
      .wrongState, .tooLate, .inFlight, .creditFull, .conflict, .waitlistFull, .ticketsFull, .directoryFull,
      .quota, .inUse, .unmapped, .targetDown, .notReady, .targetBusy, .overlap].map Status.code =
    [0x00, 0x01, 0x02, 0x10, 0x11, 0x12, 0x13, 0x20, 0x21, 0x22, 0x23, 0x24, 0x25, 0x30, 0x31, 0x32, 0x33,
      0x34, 0x35, 0x40, 0x41, 0x42, 0x43, 0x44] ∧
  ∀ (s : State) (p : Port), s.resetLow = false →
    let becomes (c : Instr) (u : LinkUnit) : Prop := ∃ t, exec c s = .next t ∧ t.link p = u ∧
      LinksBut p s t ∧ KeepsAllBut [.links] s t
    ((s.link p).transfer = .idle → (s.link p).prstLow = false →
      (∀ r, (s.link p).link = .responseReady r →
        becomes (.firstByteClocked p 0x00) { s.link p with transfer := .read (some r) false }) ∧
      ((∀ r, (s.link p).link ≠ .responseReady r) →
        becomes (.firstByteClocked p 0x00) { s.link p with transfer := .read none false }) ∧
      ∀ b, b ≠ 0x00 → becomes (.firstByteClocked p b) { s.link p with transfer := .request b }) ∧
    ((s.link p).transfer = .idle → (s.link p).prstLow = true → ∀ b,
      becomes (.firstByteClocked p b) { s.link p with transfer := .ignored }) ∧
    ((s.link p).transfer ≠ .idle → ∀ b, exec (.firstByteClocked p b) s = .next s) ∧
    (∀ n,
      (∀ r, (s.link p).transfer = .read (some r) false →
        s.ldo p n = ((bitsOf r.bytes)[n]?).getD true) ∧
      ((s.link p).transfer = .read none false → s.ldo p n = decide (24 ≤ n)) ∧
      ((∀ r, (s.link p).transfer ≠ .read r false) → s.ldo p n = true)) ∧
    ∀ n k, k ≤ n →
      (∀ r, (s.link p).transfer = .read (some r) false → (s.link p).link = .responseReady r →
        becomes (.readTransfer p n k) { s.link p with
          transfer := .idle
          driven := List.replicate 8 true ++ (bitsOf r.bytes ++ List.replicate n true).take n
          link := if 8 * (3 + r.results.length) ≤ n then .idle else .responseReady r }) ∧
      ((s.link p).transfer = .idle → (s.link p).prstLow = false →
        ∃ v, exec (.firstByteClocked p 0x00) s = .next v ∧
          exec (.readTransfer p n k) s = exec (.readTransfer p n k) v) ∧
      ((s.link p).transfer = .ignored ∨ ((s.link p).transfer = .idle ∧ (s.link p).prstLow = true) →
        becomes (.readTransfer p n k) { s.link p with
          transfer := .idle, driven := List.replicate (8 + n) true }) ∧
      ((s.link p).transfer = .read none false →
        becomes (.readTransfer p n k) { s.link p with
          transfer := .idle
          driven := List.replicate 8 true ++ (List.replicate 24 false ++ List.replicate n true).take n }) ∧
      ((s.link p).transfer = .read none true →
        becomes (.readTransfer p n k) { s.link p with
          transfer := .idle
          driven := List.replicate 8 true ++
            ((List.replicate 24 false).take k ++ List.replicate n true).take n }) ∧
      ∀ r, (s.link p).transfer = .read (some r) true →
        becomes (.readTransfer p n k) { s.link p with
          transfer := .idle
          driven := List.replicate 8 true ++
            ((bitsOf r.bytes).take k ++ List.replicate n true).take n }

/-! ### The checks of a command that names a handle -/

/-- R8, R10: for every command that names a handle, an index above 1FH is BAD_ARGUMENT, and (with its other
arguments in range) a FREE entry or another generation is STALE_HANDLE, and nothing else changes. -/
def Obligations.InvalidHandleIsRefused : Prop :=
  ∀ (s : State) (p : Port) (tag : Byte) (r : Request) (cmd : HandleCommand) (h : RawHandle) (ok : Bool)
    (c : Instr), s.resetLow = false → InHandIs s p tag r → SentBy p r →
    handleFormOf r = some (cmd, h, ok) → rowOf p r = some c →
    (0x1F < h.index.toNat ∨ ok = false →
      ∃ t, exec c s = .next t ∧ Answered p tag .badArgument [] s t ∧ KeepsAllBut [.links] s t) ∧
    ∀ i : EntryIx, h.index.toNat = i.val → ok = true →
      (s.lease i = none ∨ (s.entry i).generation ≠ h.generation) →
      ∃ t, exec c s = .next t ∧ Answered p tag .staleHandle [] s t ∧ KeepsAllBut [.links] s t

/-- R9, R10: the holder test, which REVOKE and PURGE do not make, and the state check with its table: the
refusal carries the state and the revoke reason, and nothing else changes. That STATUS is taken on a tombstone
of a lost target too, where R162 lists it as TOO_LATE, is the model's choice (log 26). -/
def Obligations.HolderAndStateChecksRefuse : Prop :=
  (∀ (s : State) (p : Port) (tag : Byte) (r : Request) (cmd : HandleCommand) (h : RawHandle) (c : Instr)
    (i : EntryIx) (l : Lease), s.resetLow = false → InHandIs s p tag r → SentBy p r →
    handleFormOf r = some (cmd, h, true) → rowOf p r = some c → Names s h i l →
    (cmd ≠ .revoke → cmd ≠ .purge → l.holder ≠ p →
      ∃ t, exec c s = .next t ∧ Answered p tag .notHolder [] s t ∧ KeepsAllBut [.links] s t) ∧
    (cmd = .revoke ∨ cmd = .purge ∨ l.holder = p →
      (cmd.check l.state = .wrongState →
        ∃ t, exec c s = .next t ∧ Answered p tag .wrongState [l.state.code, reasonByte l.state.reason] s t ∧
          KeepsAllBut [.links] s t) ∧
      (cmd.check l.state = .tooLate →
        ∃ t, exec c s = .next t ∧ Answered p tag .tooLate [l.state.code, reasonByte l.state.reason] s t ∧
          KeepsAllBut [.links] s t))) ∧
  ∀ (a b : RevokeReason) (x : Bool),
    let row (cmd : HandleCommand) : List StateCheck :=
      [cmd.check .held, cmd.check .parked, cmd.check .closing, cmd.check (.revoking a x),
        cmd.check (.revoked b)]
    row .renew = [.taken, .taken, .wrongState, .tooLate, .tooLate] ∧
    row .close = [.taken, .taken, .wrongState, .tooLate, .tooLate] ∧
    row .park = [.taken, .wrongState, .wrongState, .tooLate, .tooLate] ∧
    row .unpark = [.wrongState, .taken, .wrongState, .tooLate, .tooLate] ∧
    row .reshape = [.wrongState, .taken, .wrongState, .tooLate, .tooLate] ∧
    row .status = [.taken, .taken, .taken, .taken, .taken] ∧
    row .ackRevoke = [.wrongState, .wrongState, .wrongState, .tooLate, .taken] ∧
    row .revoke = [.taken, .taken, .wrongState, .tooLate, .tooLate] ∧
    row .purge = [.wrongState, .wrongState, .wrongState, .wrongState, .taken]

/-! ### OPEN and the wait list -/

/-- R26: an OPEN is refused with BAD_ARGUMENT, changing nothing else, exactly when its page count, its last
page, its class code or its WAIT flag is out of range; a wait limit sent with WAIT clear is ignored. -/
def Obligations.OpenOutOfRangeIsBadArgument : Prop :=
  ∀ (s : State) (p : Port) (tag : Byte) (base count : BitVec 16) (cls wait : Byte) (limit : BitVec 16),
    s.resetLow = false → InHandIs s p tag (.openLease base count cls wait limit) →
    let outOfRange : Prop := count.toNat = 0 ∨ 256 < count.toNat ∨ 0xFFF < base.toNat + count.toNat - 1 ∨
      (cls ≠ 0x01 ∧ cls ≠ 0x02) ∨ (wait ≠ 0x00 ∧ wait ≠ 0x01)
    (outOfRange →
      ∃ t, exec (.openLease p) s = .next t ∧ Answered p tag .badArgument [] s t ∧
        KeepsAllBut [.links] s t) ∧
    (¬ outOfRange → ∀ t, exec (.openLease p) s = .next t →
      ∀ res, (t.link p).link ≠ .responseReady { tag := tag, status := .badArgument, results := res }) ∧
    ∀ limit', takeOpen p base count cls 0x00 limit s = takeOpen p base count cls 0x00 limit' s

/-- R27: an OPEN whose window lies in no span of the map is UNMAPPED; with the map's law, the target whose
span holds the window is the one found; and on an OFFLINE target the answer is TARGET_DOWN. -/
def Obligations.OpenFindsItsTarget : Prop :=
  ∀ (s : State) (p : Port) (tag : Byte) (base count : BitVec 16) (cls wait : Byte) (limit : BitVec 16)
    (w : Window) (c : LeaseClass) (f : Bool), s.resetLow = false →
    InHandIs s p tag (.openLease base count cls wait limit) →
    windowOf 256 base count = some w → classOf cls = some c → waitFlagOf wait = some f →
    ((∀ u a, s.span u = some a → w.inside a = false) →
      ∃ t, exec (.openLease p) s = .next t ∧ Answered p tag .unmapped [] s t ∧ KeepsAllBut [.links] s t) ∧
    ∀ u a, s.span u = some a → w.inside a = true → MapLaw s →
      s.targetOfWindow w = some u ∧
      ((s.target u).state = .offline →
        ∃ t, exec (.openLease p) s = .next t ∧ Answered p tag .targetDown [] s t ∧
          KeepsAllBut [.links] s t)

/-- R28: an OPEN taken while the charge equals the quota is refused with QUOTA, whatever the WAIT flag says;
entries that are not FREE and WAITING tickets charge. -/
def Obligations.OpenAtQuotaIsRefused : Prop :=
  ∀ (s : State) (p : Port) (tag : Byte) (base count : BitVec 16) (cls wait : Byte) (limit : BitVec 16)
    (c : Claim) (f : Bool), s.resetLow = false →
    InHandIs s p tag (.openLease base count cls wait limit) → OpenFinds s base count cls wait c f →
    (allEntries.countP fun i => (s.lease i).any fun l => l.holder == p) +
      (([0, 1] : List Slot).countP fun k => s.ticket p k == .waiting) = s.quota p →
    ∃ t, exec (.openLease p) s = .next t ∧ Answered p tag .quota [] s t ∧ KeepsAllBut [.links] s t

/-- R6, R7, R29: a grantable OPEN is granted at once in the lowest-numbered FREE entry, answered OK with the
new handle, and raises the port's charge by one; the wait list is not touched. -/
def Obligations.GrantableOpenIsGranted : Prop :=
  ∀ (s : State) (p : Port) (tag : Byte) (base count : BitVec 16) (cls wait : Byte) (limit : BitVec 16)
    (c : Claim) (f : Bool) (i : EntryIx), s.resetLow = false →
    InHandIs s p tag (.openLease base count cls wait limit) → OpenFinds s base count cls wait c f →
    s.charge p ≠ s.quota p → (s.target c.target).state.inService = true →
    (∀ j l, s.lease j = some l → l.occupying = true → l.claim.conflicts c = false) →
    (∀ w, w ∈ s.waitList → w.claim.conflicts c = false) → LowestFree s i →
    ∃ t, exec (.openLease p) s = .next t ∧
      EntryBecomes i { generation := (s.entry i).generation + 1, lease := some (grantedLease s p c) } s t ∧
      Answered p tag .ok [byteOf i, (s.entry i).generation + 1] s t ∧
      t.charge p = s.charge p + 1 ∧ KeepsAllBut [.directory, .links] s t

/-- R30: an OPEN that is not grantable and asks to wait is refused with TICKETS_FULL or WAITLIST_FULL, or
joins the tail of the wait list under the lowest unused ticket and is answered QUEUED. -/
def Obligations.WaitingOpenIsQueued : Prop :=
  ∀ (s : State) (p : Port) (tag : Byte) (base count : BitVec 16) (cls wait : Byte) (limit : BitVec 16)
    (c : Claim), s.resetLow = false →
    InHandIs s p tag (.openLease base count cls wait limit) → OpenFinds s base count cls wait c true →
    s.charge p ≠ s.quota p → NotGrantable s c →
    ((∀ k, s.ticket p k ≠ .unused) →
      ∃ t, exec (.openLease p) s = .next t ∧ Answered p tag .ticketsFull [] s t ∧
        KeepsAllBut [.links] s t) ∧
    ∀ k : Slot, s.ticket p k = .unused → (∀ j, j < k → s.ticket p j ≠ .unused) →
      (8 ≤ s.waitList.length →
        ∃ t, exec (.openLease p) s = .next t ∧ Answered p tag .waitlistFull [] s t ∧
          KeepsAllBut [.links] s t) ∧
      (s.waitList.length < 8 →
        ∃ t, exec (.openLease p) s = .next t ∧
          t.waitList = s.waitList ++
            [{ port := p, slot := k, claim := c, due := false
               remaining := if limit.toNat = 0 then none else some limit.toNat }] ∧
          t.link p = { s.link p with
            tickets := (s.link p).tickets.set k .waiting
            link := .responseReady
              { tag := tag, status := .queued, results := [byteOf k, byteOf s.waitList.length] } } ∧
          LinksBut p s t ∧ KeepsAllBut [.waitList, .links] s t)

/-- R31: an OPEN that is not grantable and does not ask to wait is refused with CONFLICT, else NOT_READY,
else DIRECTORY_FULL, where then the target is READY or SUSPECT and no entry is FREE. -/
def Obligations.OpenNotWaitingIsRefused : Prop :=
  ∀ (s : State) (p : Port) (tag : Byte) (base count : BitVec 16) (cls wait : Byte) (limit : BitVec 16)
    (c : Claim), s.resetLow = false →
    InHandIs s p tag (.openLease base count cls wait limit) → OpenFinds s base count cls wait c false →
    s.charge p ≠ s.quota p → NotGrantable s c →
    let conflict : Prop :=
      (∃ i l, s.lease i = some l ∧ l.occupying = true ∧ l.claim.conflicts c = true) ∨
        ∃ w, w ∈ s.waitList ∧ w.claim.conflicts c = true
    let refused (st : Status) : Prop :=
      ∃ t, exec (.openLease p) s = .next t ∧ Answered p tag st [] s t ∧ KeepsAllBut [.links] s t
    (conflict → refused .conflict) ∧
    (¬ conflict → (s.target c.target).state = .probing → refused .notReady) ∧
    (¬ conflict → (s.target c.target).state ≠ .probing →
      refused .directoryFull ∧ (s.target c.target).state.inService = true ∧ ∀ i, s.lease i ≠ none)

/-- R25, R39: CANCEL acts on the port's own ticket according to its state, and every answer but BAD_ARGUMENT
carries the ticket's record as it stood. -/
def Obligations.CancelEndsATicket : Prop :=
  ∀ (s : State) (p : Port) (tag slot : Byte), s.resetLow = false → InHandIs s p tag (.cancel slot) →
    (2 ≤ slot.toNat →
      ∃ t, exec (.cancel p) s = .next t ∧ Answered p tag .badArgument [] s t ∧ KeepsAllBut [.links] s t) ∧
    ∀ k : Slot, slot.toNat = k.val →
      let answered (st : Status) (res : List Byte) : Prop :=
        ∃ t, exec (.cancel p) s = .next t ∧
          t.link p = { s.link p with
            tickets := (s.link p).tickets.set k .unused
            link := .responseReady { tag := tag, status := st, results := res } } ∧
          LinksBut p s t ∧ KeepsAllBut [.links] s t
      (s.ticket p k = .unused → answered .wrongState [byteOf k, 0x00, 0x00, 0x00]) ∧
      (∀ h, s.ticket p k = .granted h →
        answered .tooLate [byteOf k, 0x02, byteOf h.index, h.generation]) ∧
      (∀ r, s.ticket p k = .refused r → answered .tooLate [byteOf k, 0x03, r.code, 0x00]) ∧
      (s.ticket p k = .waiting →
        ∃ u t, exec (.cancel p) s = .next t ∧
          u.waitList = s.waitList.filter (fun w => !(w.port == p && w.slot == k)) ∧
          u.link p = { s.link p with tickets := (s.link p).tickets.set k .unused } ∧
          LinksBut p s u ∧ KeepsAllBut [.waitList, .links] s u ∧
          Answered p tag .ok [byteOf k, 0x01, byteOf (s.position p k), 0x00] (scan u) t ∧
          KeepsAllBut [.links] (scan u) t)

/-- R25, R37, R41: TICKET_READ reports the ticket, with the codes of R25 for the reason of a refusal, and
frees a slot that is GRANTED or REFUSED; a wait limit
that expires takes its request off the list, refuses its ticket with WAIT_EXPIRED and starts a scan. The
mark that an expiry is due is the model's (log 4). -/
def Obligations.TicketsAreReadAndExpire : Prop :=
  [RefuseReason.waitExpired, .targetDown, .cleared].map RefuseReason.code = [0x01, 0x02, 0x03] ∧
  (∀ (s : State) (p : Port) (tag slot : Byte), s.resetLow = false →
    InHandIs s p tag (.ticketRead slot) →
    (2 ≤ slot.toNat →
      ∃ t, exec (.ticketRead p) s = .next t ∧ Answered p tag .badArgument [] s t ∧
        KeepsAllBut [.links] s t) ∧
    ∀ k : Slot, slot.toNat = k.val →
      let answered (after : Ticket) (res : List Byte) : Prop :=
        ∃ t, exec (.ticketRead p) s = .next t ∧
          t.link p = { s.link p with
            tickets := (s.link p).tickets.set k after
            link := .responseReady { tag := tag, status := .ok, results := res } } ∧
          LinksBut p s t ∧ KeepsAllBut [.links] s t
      (s.ticket p k = .unused → answered .unused [byteOf k, 0x00, 0x00, 0x00]) ∧
      (s.ticket p k = .waiting → answered .waiting [byteOf k, 0x01, byteOf (s.position p k), 0x00]) ∧
      (∀ h, s.ticket p k = .granted h →
        answered .unused [byteOf k, 0x02, byteOf h.index, h.generation]) ∧
      ∀ r, s.ticket p k = .refused r → answered .unused [byteOf k, 0x03, r.code, 0x00]) ∧
  ∀ (s : State) (p : Port) (k : Slot) (w : Waiter), s.resetLow = false → s.waiterAt p k = some w →
    w.due = true →
    ∃ u, exec (.waitExpired p k) s = .next (scan u) ∧
      u.waitList = s.waitList.filter (fun x => !(x.port == p && x.slot == k)) ∧
      u.link p = { s.link p with tickets := (s.link p).tickets.set k (.refused .waitExpired) } ∧
      LinksBut p s u ∧ KeepsAllBut [.waitList, .links] s u

/-- R34, R35, R36: a scan changes only FREE entries, tickets and the wait list, keeps the list's order, leaves
nothing that a second scan would grant, and never takes a request off the list that conflicts with an older
one on it. Every request that it leaves fails one of the four conditions of R34, and every request that it
takes off is granted, with its ticket, in an entry that was FREE. -/
def Obligations.ScanKeepsTheListsOrder : Prop :=
  ∀ s : State,
    KeepsAllBut [.directory, .links, .waitList] s (scan s) ∧
    (∀ i l, s.lease i = some l → (scan s).entry i = s.entry i) ∧
    (∀ p, (scan s).link p = { s.link p with tickets := ((scan s).link p).tickets }) ∧
    (∀ p k, (∀ w, w ∈ s.waitList → ¬ (w.port = p ∧ w.slot = k)) → (scan s).ticket p k = s.ticket p k) ∧
    (scan s).waitList.Sublist s.waitList ∧
    scan (scan s) = scan s ∧
    (∀ older between newer w x, s.waitList = older ++ w :: between ++ x :: newer →
      w.claim.conflicts x.claim = true → x ∈ (scan s).waitList) ∧
    (∀ older w newer, (scan s).waitList = older ++ w :: newer →
      (s.target w.claim.target).state.inService = false ∨
      (∃ i l, (scan s).lease i = some l ∧ l.occupying = true ∧ l.claim.conflicts w.claim = true) ∨
      (∃ o, o ∈ older ∧ o.claim.conflicts w.claim = true) ∨
      ∀ i, (scan s).lease i ≠ none) ∧
    ∀ w, w ∈ s.waitList → s.waitersOf w.port w.slot = 1 → w ∉ (scan s).waitList →
      ∃ i, s.lease i = none ∧
        (scan s).entry i =
          { generation := (s.entry i).generation + 1, lease := some (grantedLease s w.port w.claim) } ∧
        (scan s).ticket w.port w.slot =
          .granted { index := i, generation := (s.entry i).generation + 1 }

/-- R34, R35: a scan that finds the oldest request grantable grants it in the lowest-numbered FREE entry,
with its ticket; one that does not leaves it at the head. -/
def Obligations.ScanGrantsTheOldest : Prop :=
  ∀ (s : State) (w : Waiter) (rest : List Waiter), s.waitList = w :: rest →
    (∀ x, x ∈ rest → ¬ (x.port = w.port ∧ x.slot = w.slot)) →
    let free : Prop := (s.target w.claim.target).state.inService = true ∧
      ∀ j l, s.lease j = some l → l.occupying = true → l.claim.conflicts w.claim = false
    (∀ i, free → LowestFree s i →
      (scan s).entry i =
        { generation := (s.entry i).generation + 1, lease := some (grantedLease s w.port w.claim) } ∧
      (scan s).ticket w.port w.slot =
        .granted { index := i, generation := (s.entry i).generation + 1 } ∧
      (scan s).waitList.Sublist rest) ∧
    (¬ free ∨ (∀ i, s.lease i ≠ none) →
      (scan s).waitList.head? = some w ∧ (scan s).ticket w.port w.slot = s.ticket w.port w.slot)

/-! ### Lease commands -/

/-- R55: a RENEW whose sum is +8 or less raises the balance and changes nothing else. -/
def Obligations.RenewRaisesTheBalance : Prop :=
  ∀ (s : State) (p : Port) (tag : Byte) (h : RawHandle) (n : Byte) (i : EntryIx) (l : Lease),
    s.resetLow = false → InHandIs s p tag (.renew h n) → Names s h i l → l.holder = p → HeldOrParked l →
    1 ≤ n.toNat → n.toNat ≤ 8 → l.balance + n.toNat ≤ 8 →
    ∃ t, exec (.renew p) s = .next t ∧
      EntryBecomes i
        { generation := h.generation, lease := some { l with balance := l.balance + n.toNat } } s t ∧
      Answered p tag .ok ([BitVec.ofInt 8 (l.balance + n.toNat)] ++ word16 l.interval) s t ∧
      KeepsAllBut [.directory, .links] s t

/-- R56: a RENEW that would carry the balance above +8 is refused with CREDIT_FULL and leaves the balance as
it was; and only a HELD or PARKED entry gets that answer. -/
def Obligations.RenewAboveCreditIsRefused : Prop :=
  ∀ (s : State) (p : Port) (tag : Byte) (h : RawHandle) (n : Byte) (i : EntryIx) (l : Lease),
    s.resetLow = false → InHandIs s p tag (.renew h n) → Names s h i l → l.holder = p →
    1 ≤ n.toNat → n.toNat ≤ 8 →
    (HeldOrParked l → 8 < l.balance + n.toNat →
      ∃ t, exec (.renew p) s = .next t ∧
        Answered p tag .creditFull ([BitVec.ofInt 8 l.balance] ++ word16 l.interval) s t ∧
        KeepsAllBut [.links] s t) ∧
    ∀ t res, exec (.renew p) s = .next t →
      (t.link p).link = .responseReady { tag := tag, status := .creditFull, results := res } →
      HeldOrParked l

/-- R73, R74, R122: a CLOSE of a lease with nothing outstanding frees the entry, answers 00H 00H and starts a
scan; else the entry goes to CLOSING and the CLOSE stays in hand with the count it found. A write stalled
under the entry is refused first. -/
def Obligations.CloseFreesOrDrains : Prop :=
  ∀ (s : State) (p : Port) (tag : Byte) (h : RawHandle) (i : EntryIx) (l : Lease),
    s.resetLow = false → InHandIs s p tag (.close h) → Names s h i l → l.holder = p → HeldOrParked l →
    ∃ v, StalledRefused i .leaseRetiring s v ∧
      (l.outstanding = 0 →
        ∃ u, exec (.close p) s = .next (scan u) ∧
          EntryBecomes i { generation := h.generation, lease := none } v u ∧
          Answered p tag .ok [0x00, 0x00] v u ∧ KeepsAllBut [.directory, .links] v u) ∧
      (l.outstanding ≠ 0 →
        ∃ t, exec (.close p) s = .next t ∧
          EntryBecomes i { generation := h.generation, lease := some (l.movedTo .closing) } v t ∧
          t.link p = { v.link p with
            link := .command
              { tag := tag, request := .close h
                closing := some { index := i, found := l.outstanding } } } ∧
          LinksBut p v t ∧ KeepsAllBut [.directory, .links] v t)

/-- R61, R63, R65, R122: PARK and UNPARK change the state and nothing else, and start no scan; a PARK first
refuses a write stalled under its entry. That no PARKED entry fails UNPARK's test of its target is deduced
(log 15). -/
def Obligations.ParkAndUnparkChangeTheState : Prop :=
  ∀ (s : State) (p : Port) (tag : Byte) (h : RawHandle) (i : EntryIx) (l : Lease),
    s.resetLow = false → Names s h i l → l.holder = p →
    (InHandIs s p tag (.park h) → l.state = .held →
      ∃ v t, StalledRefused i .leaseParked s v ∧ exec (.park p) s = .next t ∧
        EntryBecomes i { generation := h.generation, lease := some { l with state := .parked } } v t ∧
        Answered p tag .ok [byteOf l.outstanding, BitVec.ofInt 8 l.balance] v t ∧
        KeepsAllBut [.directory, .links] v t) ∧
    (InHandIs s p tag (.unpark h) → l.state = .parked →
      ∃ t, exec (.unpark p) s = .next t ∧
        EntryBecomes i { generation := h.generation, lease := some { l with state := .held } } s t ∧
        Answered p tag .ok ([BitVec.ofInt 8 l.balance] ++ word16 l.interval) s t ∧
        KeepsAllBut [.directory, .links] s t)

/-- R67 to R71: the last three checks of a RESHAPE, in their order, and its effect: the window and class are
replaced, the lease keeps the rest, and a scan starts. -/
def Obligations.ReshapeMovesAParkedLease : Prop :=
  ∀ (s : State) (p : Port) (tag : Byte) (h : RawHandle) (base count : BitVec 16) (cls : Byte)
    (i : EntryIx) (l : Lease) (w : Window) (c : LeaseClass) (span : Window),
    s.resetLow = false → InHandIs s p tag (.reshape h base count cls) → Names s h i l → l.holder = p →
    l.state = .parked → windowOf 256 base count = some w → classOf cls = some c →
    s.span l.claim.target = some span →
    let claim : Claim := { target := l.claim.target, window := w, cls := c }
    let conflict : Prop :=
      ∃ j m, j ≠ i ∧ s.lease j = some m ∧ m.occupying = true ∧ m.claim.conflicts claim = true
    let refused (st : Status) (res : List Byte) : Prop :=
      ∃ t, exec (.reshape p) s = .next t ∧ Answered p tag st res s t ∧ KeepsAllBut [.links] s t
    (l.outstanding ≠ 0 → refused .inFlight [byteOf l.outstanding]) ∧
    (l.outstanding = 0 → w.inside span = false → refused .unmapped []) ∧
    (l.outstanding = 0 → w.inside span = true → conflict → refused .conflict []) ∧
    (l.outstanding = 0 → w.inside span = true → ¬ conflict →
      ∃ u, exec (.reshape p) s = .next (scan u) ∧
        EntryBecomes i { generation := h.generation, lease := some { l with claim := claim } } s u ∧
        Answered p tag .ok (word16 w.base ++ word16 w.count ++ [c.code]) s u ∧
        KeepsAllBut [.directory, .links] s u)

/-- R84 to R86: ACK_REVOKE by the holder and PURGE by P0 free a tombstone, keep its generation, answer its
reason (with its marks, or its holder) and start a scan; PURGE in its port form frees every tombstone of the
port and nothing else, and counts them, and a scan follows if there was one. -/
def Obligations.TombstonesAreFreed : Prop :=
  (∀ (s : State) (p : Port) (tag : Byte) (h : RawHandle) (i : EntryIx) (l : Lease) (r : RevokeReason),
    s.resetLow = false → Names s h i l → l.state = .revoked r →
    (InHandIs s p tag (.ackRevoke h) → l.holder = p →
      ∃ u, exec (.ackRevoke p) s = .next (scan u) ∧
        EntryBecomes i { generation := h.generation, lease := none } s u ∧
        Answered p tag .ok [r.code, l.marks.byte] s u ∧ KeepsAllBut [.directory, .links] s u) ∧
    (InHandIs s 0 tag (.purgeHandle h) →
      ∃ u, exec .purgeHandle s = .next (scan u) ∧
        EntryBecomes i { generation := h.generation, lease := none } s u ∧
        Answered 0 tag .ok [byteOf l.holder, r.code] s u ∧ KeepsAllBut [.directory, .links] s u)) ∧
  ∀ (s : State) (tag port : Byte), s.resetLow = false → InHandIs s 0 tag (.purgePort port) →
    (6 ≤ port.toNat →
      ∃ t, exec .purgePort s = .next t ∧ Answered 0 tag .badArgument [] s t ∧ KeepsAllBut [.links] s t) ∧
    ∀ p : Port, port.toNat = p.val →
      let n := allEntries.countP fun i => (s.lease i).any (·.isTombstoneOf p)
      ∃ u t, exec .purgePort s = .next t ∧
        (∀ i, u.entry i = { generation := (s.entry i).generation
                            lease := (s.lease i).filter fun l => !l.isTombstoneOf p }) ∧
        KeepsAllBut [.directory] s u ∧
        Answered 0 tag .ok [port, byteOf n] (if n = 0 then u else scan u) t ∧
        KeepsAllBut [.links] (if n = 0 then u else scan u) t

/-! ### Supervisor commands -/

/-- R43, R77, R81, R122: DIRECTORY_CLEAR revokes every HELD and PARKED entry with CLEARED, passes the others
over, empties the wait list and refuses its tickets with CLEARED, and counts; a write stalled under an entry
that it revokes is refused first. -/
def Obligations.DirectoryClearRevokesAndEmpties : Prop :=
  ∀ (s : State) (tag : Byte), s.resetLow = false → InHandIs s 0 tag .directoryClear →
    let live (w : PostedWrite) : Prop := ∃ l, s.lease w.handle.index = some l ∧ HeldOrParked l
    ∃ v t, exec .directoryClear s = .next t ∧
      ((∀ w, s.stalled = some w → ¬ live w) → v = s) ∧
      (∀ w, s.stalled = some w → live w → StalledRefused w.handle.index .leaseRetiring s v) ∧
      (∀ i, (t.entry i).generation = (s.entry i).generation ∧
        (∀ l, s.lease i = some l → HeldOrParked l →
          t.lease i = some (if l.outstanding = 0 then l.tombstone .cleared
            else l.movedTo (.revoking .cleared false))) ∧
        (∀ l, s.lease i = some l → ¬ HeldOrParked l → t.lease i = some l) ∧
        (s.lease i = none → t.lease i = none)) ∧
      t.waitList = [] ∧
      (∀ p k, t.ticket p k =
        if 0 < s.waitersOf p k then .refused .cleared else s.ticket p k) ∧
      (∀ p, t.link p = { v.link p with
        tickets := (t.link p).tickets
        link := if p = 0 then .responseReady
            { tag := tag
              status := .ok
              results :=
                [byteOf (allEntries.countP fun i => (s.lease i).any (·.running)),
                  byteOf (allEntries.countP fun i =>
                    (s.lease i).any fun l => l.running && decide (l.outstanding ≠ 0)),
                  byteOf s.waitList.length] }
          else (s.link p).link }) ∧
      KeepsAllBut [.directory, .waitList, .links] v t

/-- R77, R79, R122: REVOKE takes a HELD or PARKED lease to REVOKING or, with nothing outstanding, on to a
tombstone with one scan, and answers P0 at once with holder, state and count. A write stalled under the
entry is refused first. -/
def Obligations.RevokeEndsALiveLease : Prop :=
  ∀ (s : State) (tag : Byte) (h : RawHandle) (i : EntryIx) (l : Lease),
    s.resetLow = false → InHandIs s 0 tag (.revoke h) → Names s h i l → HeldOrParked l →
    ∃ v, StalledRefused i .leaseRetiring s v ∧
      (l.outstanding = 0 →
        ∃ u t, exec .revoke s = .next t ∧
          EntryBecomes i { generation := h.generation, lease := some (l.tombstone .supervisor) } v u ∧
          KeepsAllBut [.directory] v u ∧
          Answered 0 tag .ok [byteOf l.holder, 0x05, 0x00] (scan u) t ∧
          KeepsAllBut [.links] (scan u) t) ∧
      (l.outstanding ≠ 0 →
        ∃ t, exec .revoke s = .next t ∧
          EntryBecomes i
            { generation := h.generation, lease := some (l.movedTo (.revoking .supervisor false)) } v t ∧
          Answered 0 tag .ok [byteOf l.holder, 0x04, byteOf l.outstanding] v t ∧
          KeepsAllBut [.directory, .links] v t)

/-- R63, R122: PARK, CLOSE, REVOKE, DIRECTORY_CLEAR and expiry end a write stalled under their entry with
IERR and a fault, and it is never queued; its lease goes where they take it, with or without accesses
outstanding, and a command is answered. That the expiry is due is the model's mark (log 4). -/
def Obligations.StalledWriteIsRefusedWithItsLease : Prop :=
  ∀ (s : State) (w : PostedWrite) (tag : Byte) (l : Lease), s.resetLow = false → s.stalled = some w →
    s.entry w.handle.index = { generation := w.handle.generation, lease := some l } →
    l.state = .held → l.holder = w.port →
    let i := w.handle.index
    let h : RawHandle := { index := byteOf i, generation := w.handle.generation }
    let refused (c : Instr) (r : FaultReason) (fate : State → Prop) : Prop :=
      ∃ t, exec c s = .next t ∧ t.stalled = none ∧ t.queue = s.queue ∧
        t.answer = some { acks := 0, ierr := true, words := [] } ∧
        (t.link w.port).fault = (s.link w.port).fault.enter
          { reason := r, access := some (w.address, .write), handle := some w.handle
            target := some w.target } ∧ fate t
    let answered (p : Port) (results : List Byte) (t : State) : Prop :=
      (t.link p).link = .responseReady { tag := tag, status := .ok, results := results }
    let revoked (r : RevokeReason) (m : Lease) (t : State) : Prop :=
      t.entry i =
        { generation := w.handle.generation
          lease := some (if l.outstanding = 0 then m.tombstone r else m.movedTo (.revoking r false)) }
    (InHandIs s w.port tag (.park h) →
      refused (.park w.port) .leaseParked fun t =>
        t.entry i = { generation := w.handle.generation, lease := some { l with state := .parked } } ∧
        answered w.port [byteOf l.outstanding, BitVec.ofInt 8 l.balance] t) ∧
    (InHandIs s w.port tag (.close h) →
      refused (.close w.port) .leaseRetiring fun t =>
        (l.outstanding = 0 →
          (∃ u, t = scan u ∧ u.entry i = { generation := w.handle.generation, lease := none }) ∧
          answered w.port [0x00, 0x00] t) ∧
        (l.outstanding ≠ 0 →
          t.entry i = { generation := w.handle.generation, lease := some (l.movedTo .closing) } ∧
          (t.link w.port).link = .command
            { tag := tag, request := .close h
              closing := some { index := i, found := l.outstanding } })) ∧
    (InHandIs s 0 tag (.revoke h) →
      refused .revoke .leaseRetiring fun t =>
        revoked .supervisor l t ∧
        answered 0 [byteOf l.holder, if l.outstanding = 0 then 0x05 else 0x04, byteOf l.outstanding] t) ∧
    (InHandIs s 0 tag .directoryClear →
      refused .directoryClear .leaseRetiring fun t =>
        revoked .cleared l t ∧
        answered 0
          [byteOf (allEntries.countP fun j => (s.lease j).any (·.running)),
            byteOf (allEntries.countP fun j =>
              (s.lease j).any fun m => m.running && decide (m.outstanding ≠ 0)),
            byteOf s.waitList.length] t) ∧
    (l.boundaryDue = true → l.balance = -8 →
      refused (.termBoundary i) .leaseRetiring fun t => revoked .expired { l with interval := 0 } t)

/-- R44, R88 to R92, R98, R112, R126, R168, R169, R178: a port reset of either source, in one step with one
scan: the owner's grant is lost and an arbitration follows, and a transfer under way is ignored or reads FFH.
PORT_RESET answers P0 with its five counts, PRSTn low holds the link and is taken once; and the port's ATTN,
RDY and TGR lines are low after. The words on ID31-ID0, the values in force, the scan and the
release-on-drain of an entry that drains by an earlier port reset are as log 11, log 14, log 16 and log 17
say. -/
def Obligations.PortResetClearsThePort : Prop :=
  (∀ (s : State) (p : Port) (selected : Bool), s.resetLow = false → (s.link p).prstLow = false →
    ∃ u t, exec (.prstLow p selected) s = .next t ∧ PortResetMakes p s u ∧
      KeepsAllBut [.links] (scan u) t ∧ LinksBut p (scan u) t ∧
      t.link p = { (scan u).link p with
        prstLow := true
        transfer := match (s.link p).transfer with
          | .idle => if selected = true then .ignored else .idle
          | .request _ => .ignored
          | .read r _ => .read r true
          | .ignored => .ignored } ∧
      (t.link p).link = .idle ∧ (∀ k, t.ticket p k = .unused) ∧
      t.attn p = false ∧ t.rdy p = false ∧ t.tgr p = false ∧ t.tyd p = false) ∧
  (∀ (s : State) (p : Port) (selected : Bool), s.resetLow = false → (s.link p).prstLow = true →
    exec (.prstLow p selected) s = .next s) ∧
  ∀ (s : State) (tag port : Byte), s.resetLow = false → InHandIs s 0 tag (.portReset port) →
    (port = 0x00 ∨ 6 ≤ port.toNat →
      ∃ t, exec .portReset s = .next t ∧ Answered 0 tag .badArgument [] s t ∧ KeepsAllBut [.links] s t) ∧
    ∀ p : Port, port.toNat = p.val → p ≠ 0 →
      let count (v : State) (f : Lease → Bool) : Byte :=
        byteOf (allEntries.countP fun i => (v.lease i).any fun l => l.holder == p && f l)
      ∃ u t, exec .portReset s = .next t ∧ PortResetMakes p s u ∧
        Answered 0 tag .ok
          [port, count s (·.running), count s (fun l => !l.occupying), count u (·.draining),
            byteOf (s.waitList.countP fun w => w.port == p)] (scan u) t ∧
        KeepsAllBut [.links] (scan u) t ∧
        t.attn p = false ∧ t.rdy p = false ∧ t.tgr p = false ∧ t.tyd p = false

/-- R18, R46, R110, R111: SET_QUOTA, SET_TIMEBASE, SET_PRIORITY and SET_HOLD set their one setting, within
its range, and answer with it. -/
def Obligations.SettingsAreSet : Prop :=
  [Requester.idle, .waiting, .owner, .yielding, .preempted].map Requester.code =
    [0x00, 0x01, 0x02, 0x03, 0x04] ∧
  (∀ (s : State) (tag port q : Byte), s.resetLow = false → InHandIs s 0 tag (.setQuota port q) →
    (6 ≤ port.toNat ∨ q = 0x00 ∨ 32 < q.toNat →
      ∃ t, exec .setQuota s = .next t ∧ Answered 0 tag .badArgument [] s t ∧ KeepsAllBut [.links] s t) ∧
    ∀ p : Port, port.toNat = p.val → 1 ≤ q.toNat → q.toNat ≤ 32 →
      (q.toNat < s.charge p →
        ∃ t, exec .setQuota s = .next t ∧
          Answered 0 tag .inUse [port, byteOf (s.quota p), byteOf (s.charge p)] s t ∧
          KeepsAllBut [.links] s t) ∧
      (s.charge p ≤ q.toNat →
        ∃ t, exec .setQuota s = .next t ∧ t.quota p = q.toNat ∧ (∀ r, r ≠ p → t.quota r = s.quota r) ∧
          Answered 0 tag .ok [port, q, byteOf (s.charge p)] s t ∧ KeepsAllBut [.quotas, .links] s t)) ∧
  (∀ (s : State) (tag k : Byte), s.resetLow = false → InHandIs s 0 tag (.setTimebase k) →
    (10 < k.toNat →
      ∃ t, exec .setTimebase s = .next t ∧ Answered 0 tag .badArgument [] s t ∧
        KeepsAllBut [.links] s t) ∧
    (k.toNat ≤ 10 →
      ∃ t, exec .setTimebase s = .next t ∧ t.clock = { s.clock with pendingK := some k.toNat } ∧
        Answered 0 tag .ok [byteOf s.clock.k, k] s t ∧ KeepsAllBut [.clock, .links] s t)) ∧
  (∀ (s : State) (tag port lv : Byte), s.resetLow = false → InHandIs s 0 tag (.setPriority port lv) →
    (6 ≤ port.toNat ∨ 4 ≤ lv.toNat →
      ∃ t, exec .setPriority s = .next t ∧ Answered 0 tag .badArgument [] s t ∧
        KeepsAllBut [.links] s t) ∧
    ∀ (p : Port) (n : Fin 4), port.toNat = p.val → lv.toNat = n.val →
      ∃ u t, exec .setPriority s = .next t ∧
        u.requesting p = { s.requesting p with level := n } ∧ RequestersBut p s u ∧
        u.arb = { s.arb with ports := u.arb.ports } ∧ KeepsAllBut [.arbiter] s u ∧
        Answered 0 tag .ok
          [port, byteOf (s.requesting p).level, lv, ((contenderTest u).requester p).code]
          (contenderTest u) t ∧
        KeepsAllBut [.links] (contenderTest u) t) ∧
  ∀ (s : State) (tag port : Byte) (hold : BitVec 16) (grace : Byte), s.resetLow = false →
    InHandIs s 0 tag (.setHold port hold grace) →
    (6 ≤ port.toNat ∨ 4095 < hold.toNat ∨ grace = 0x00 →
      ∃ t, exec .setHold s = .next t ∧ Answered 0 tag .badArgument [] s t ∧ KeepsAllBut [.links] s t) ∧
    ∀ p : Port, port.toNat = p.val → hold.toNat ≤ 4095 → grace ≠ 0x00 →
      ∃ t, exec .setHold s = .next t ∧
        t.requesting p = { s.requesting p with hold := hold.toNat, grace := grace.toNat } ∧
        RequestersBut p s t ∧ t.arb = { s.arb with ports := t.arb.ports } ∧
        Answered 0 tag .ok
          [port, hold.extractLsb' 8 8, hold.extractLsb' 0 8, grace, (s.requester p).code] s t ∧
        KeepsAllBut [.arbiter, .links] s t

/-- R16, R20 to R22, R164: STATUS returns the sixteen bytes of the entry as it stands and removes EXPIRY_NEAR
and WRITE_LOST from its marks; DIRECTORY_READ and TARGET_STATUS answer the bytes of the record as it stands
and change nothing. That STATUS is taken on a tombstone of a lost target too is the model's choice (log 26). -/
def Obligations.ReportsReturnTheRecord : Prop :=
  let held (i : EntryIx) (g : Byte) (l : Lease) : List Byte :=
    [byteOf i, g, l.state.code, byteOf l.holder, byteOf l.claim.target] ++
      word16 l.claim.window.base ++ word16 l.claim.window.count ++
      [l.claim.cls.code, BitVec.ofInt 8 l.balance] ++ word16 l.interval ++
      [byteOf l.outstanding,
        (if l.marks.expiryNear = true then 0x01 else 0x00) + (if l.marks.revoked = true then 0x02 else 0x00) +
          (if l.marks.writeLost = true then 0x04 else 0x00),
        match l.state with
        | .revoking r _ => r.code
        | .revoked r => r.code
        | _ => 0x00]
  (∀ (s : State) (p : Port) (tag : Byte) (h : RawHandle) (i : EntryIx) (l : Lease),
    s.resetLow = false → InHandIs s p tag (.status h) → Names s h i l → l.holder = p →
    ∃ t, exec (.status p) s = .next t ∧
      EntryBecomes i
        { generation := h.generation
          lease := some { l with
            marks := { expiryNear := false, revoked := l.marks.revoked, writeLost := false } } } s t ∧
      Answered p tag .ok (held i h.generation l) s t ∧ (held i h.generation l).length = 16 ∧
      KeepsAllBut [.directory, .links] s t) ∧
  (∀ (s : State) (tag index : Byte), s.resetLow = false → InHandIs s 0 tag (.directoryRead index) →
    (0x1F < index.toNat →
      ∃ t, exec .directoryRead s = .next t ∧ Answered 0 tag .badArgument [] s t ∧
        KeepsAllBut [.links] s t) ∧
    ∀ (i : EntryIx) (g : Byte), index.toNat = i.val →
      (∀ l, s.entry i = { generation := g, lease := some l } →
        ∃ t, exec .directoryRead s = .next t ∧ Answered 0 tag .ok (held i g l) s t ∧
          KeepsAllBut [.links] s t) ∧
      (s.entry i = { generation := g, lease := none } →
        ∃ t, exec .directoryRead s = .next t ∧
          Answered 0 tag .ok
            [byteOf i, g, 0x00, 0xFF, 0xFF, 0x00, 0x00, 0x00, 0x00, 0x00, 0x00, 0x00, 0x00, 0x00, 0x00, 0x00]
            s t ∧
          KeepsAllBut [.links] s t)) ∧
  (∀ (s : State) (tag target : Byte), s.resetLow = false → InHandIs s 0 tag (.targetStatus target) →
    (3 < target.toNat →
      ∃ t, exec .targetStatus s = .next t ∧ Answered 0 tag .badArgument [] s t ∧
        KeepsAllBut [.links] s t) ∧
    ∀ u : TargetIx, target.toNat = u.val →
      let r := s.target u
      let settings : List Byte :=
        match r.settings with
        | none => List.replicate 17 0x00
        | some x =>
          word16 x.span.base ++ word16 x.span.count ++ [byteOf x.waitStates] ++ word16 x.readyTimeout ++
            word16 x.term ++
            match x.probe with
            | none => List.replicate 8 0x00
            | some y => [0x01] ++ bytes24 y.address ++ bytes32 y.signature
      let probe : List Byte :=
        match r.probeResult with
        | none => [0x00, 0x00, 0x00, 0x00, 0x00]
        | some w => [0x01] ++ bytes32 w
      let bytes : List Byte :=
        [target, r.state.code] ++ settings ++ [byteOf r.timeouts, r.lastFault.code] ++ probe ++
          [byteOf (allEntries.countP fun i =>
              (s.lease i).any fun l => l.occupying && l.claim.target == u),
            byteOf (s.waitList.countP fun w => w.claim.target == u)]
      ∃ t, exec .targetStatus s = .next t ∧ Answered 0 tag .ok bytes s t ∧ bytes.length = 28 ∧
        KeepsAllBut [.links] s t) ∧
  (∀ r b, [LeaseState.held, .parked, .closing, .revoking r b, .revoked r].map LeaseState.code =
    [0x01, 0x02, 0x03, 0x04, 0x05]) ∧
  [RevokeReason.expired, .supervisor, .targetLost, .cleared, .portReset].map RevokeReason.code =
    [0x01, 0x02, 0x03, 0x04, 0x05] ∧
  [LeaseClass.sharedRead, .exclusive].map LeaseClass.code = [0x01, 0x02] ∧
  [TargetState.unconfigured, .probing, .ready, .suspect, .offline].map TargetState.code =
    [0x00, 0x01, 0x02, 0x03, 0x04] ∧
  [LastFault.none, .accessTimeout, .probeMismatch, .probeTimeout].map LastFault.code =
    [0x00, 0x01, 0x02, 0x03]

/-- R42, R150 to R153, R157: the checks of CONFIGURE_TARGET and RELEASE_TARGET, in their order, and their
effects: the record is replaced or removed, its waiters are refused, a probe is placed (and starts at once in
an IDLE engine, R134) or the target is READY, and one scan follows if one is due. -/
def Obligations.TargetsAreConfiguredAndReleased : Prop :=
  (∀ (s : State) (tag : Byte) (a : TargetArgs), s.resetLow = false →
    InHandIs s 0 tag (.configureTarget a) →
    let last := a.base.toNat + a.count.toNat - 1
    let page := a.probeAddress.toNat / 4096
    let outOfRange : Prop :=
      3 < a.target.toNat ∨ a.count.toNat = 0 ∨ 4096 < a.count.toNat ∨ 0xFFF < last ∨
      15 < a.waitStates.toNat ∨ a.readyTimeout.toNat < 16 ∨ 4096 < a.readyTimeout.toNat ∨
      a.readyTimeout.toNat % 16 ≠ 0 ∨ a.term.toNat = 0 ∨
      (a.probeEnable ≠ 0x00 ∧ a.probeEnable ≠ 0x01) ∨
      (a.probeEnable = 0x01 ∧ (a.probeAddress.toNat % 4 ≠ 0 ∨ page < a.base.toNat ∨ last < page))
    (outOfRange →
      ∃ t, exec .configureTarget s = .next t ∧ Answered 0 tag .badArgument [] s t ∧
        KeepsAllBut [.links] s t) ∧
    ∀ v : TargetIx, a.target.toNat = v.val → ¬ outOfRange →
      let x : Settings :=
        { span := { base := a.base.toNat, count := a.count.toNat }
          waitStates := a.waitStates.toNat
          readyTimeout := a.readyTimeout.toNat
          term := a.term.toNat
          probe := if a.probeEnable = 0x01 then
              some { address := a.probeAddress, signature := a.signature }
            else none }
      let busy : Prop := (s.target v).state = .probing ∨
        ∃ i l, s.lease i = some l ∧ l.occupying = true ∧ l.claim.target = v
      let clash (w : TargetIx) : Prop := w ≠ v ∧ ∃ b, s.span w = some b ∧ x.span.overlaps b = true
      let n := s.waitList.countP fun w => w.claim.target == v
      (busy →
        ∃ t, exec .configureTarget s = .next t ∧
          Answered 0 tag .targetBusy [(s.target v).state.code, byteOf (s.occupants v)] s t ∧
          KeepsAllBut [.links] s t) ∧
      (¬ busy → ∀ w, clash w → (∀ z, z < w → ¬ clash z) →
        ∃ t, exec .configureTarget s = .next t ∧ Answered 0 tag .overlap [byteOf w] s t ∧
          KeepsAllBut [.links] s t) ∧
      (¬ busy → (∀ w, ¬ clash w) →
        ∃ u t, exec .configureTarget s = .next t ∧
          u.target v =
            { state := if x.probe.isSome then .probing else .ready
              settings := some x
              probeResult := none
              timeouts := 0
              lastFault := .none } ∧
          TargetsBut v s u ∧
          u.waitList = s.waitList.filter (fun w => w.claim.target != v) ∧
          (∀ p k, u.ticket p k =
            if s.waitList.any (fun w => w.claim.target == v && w.port == p && w.slot == k) then
              .refused .targetDown
            else s.ticket p k) ∧
          (∀ p, u.link p = { s.link p with tickets := (u.link p).tickets }) ∧
          (∀ y, x.probe = some y → u.probe v = some { address := y.address, captured := none } ∧
            (∀ w, w ≠ v → u.probe w = s.probe w) ∧ u.current ≠ none ∧
            (∀ c, s.current = some c → u.current = some c) ∧
            (s.current = none → EngineLaw s → u.current = some
              { holding := .probe v, taken := 0, phase := .setup, waitStates := x.waitStates
                readyTimeout := x.readyTimeout, base := x.span.base })) ∧
          (x.probe = none → u.probes = s.probes ∧ u.current = s.current) ∧
          KeepsAllBut [.targets, .waitList, .links, .probes, .current] s u ∧
          Answered 0 tag .ok [byteOf v, if x.probe.isSome then 0x01 else 0x02, byteOf n]
            (if n = 0 ∧ x.probe.isSome then u else scan u) t ∧
          KeepsAllBut [.links] (if n = 0 ∧ x.probe.isSome then u else scan u) t)) ∧
  ∀ (s : State) (tag target : Byte), s.resetLow = false → InHandIs s 0 tag (.releaseTarget target) →
    (3 < target.toNat →
      ∃ t, exec .releaseTarget s = .next t ∧ Answered 0 tag .badArgument [] s t ∧
        KeepsAllBut [.links] s t) ∧
    ∀ v : TargetIx, target.toNat = v.val →
      let busy : Prop := (s.target v).state = .probing ∨
        ∃ i l, s.lease i = some l ∧ l.occupying = true ∧ l.claim.target = v
      let n := s.waitList.countP fun w => w.claim.target == v
      (busy →
        ∃ t, exec .releaseTarget s = .next t ∧
          Answered 0 tag .targetBusy [(s.target v).state.code, byteOf (s.occupants v)] s t ∧
          KeepsAllBut [.links] s t) ∧
      (¬ busy →
        ∃ u t, exec .releaseTarget s = .next t ∧
          u.target v = { state := .unconfigured, settings := none, probeResult := none, timeouts := 0
                         lastFault := .none } ∧
          TargetsBut v s u ∧
          u.waitList = s.waitList.filter (fun w => w.claim.target != v) ∧
          (∀ p k, u.ticket p k =
            if s.waitList.any (fun w => w.claim.target == v && w.port == p && w.slot == k) then
              .refused .targetDown
            else s.ticket p k) ∧
          (∀ p, u.link p = { s.link p with tickets := (u.link p).tickets }) ∧
          KeepsAllBut [.targets, .waitList, .links] s u ∧
          Answered 0 tag .ok [target, (s.target v).state.code, byteOf n] (if n = 0 then u else scan u) t ∧
          KeepsAllBut [.links] (if n = 0 then u else scan u) t)

/-! ### Ticks, term boundaries and drains -/

/-- R37, R45 to R48: a tick, with no expiry of the last one waiting to be taken, starts the divider again
with the pending setting in force and counts in every running timer; one that counts out is due (log 4).
That a queued TICK produces the tick at any count of the divider, and moves no access of the engine, is the
model's choice (log 24); R45 gives it at the tick length, and there the divider's own tick is the same. -/
def Obligations.TickCountsInEveryTimer : Prop :=
  ∀ s : State, s.resetLow = false → (∀ i l, s.lease i = some l → l.boundaryDue = false) →
    (∀ w, w ∈ s.waitList → w.due = false) → s.arb.holdTimer.due = false →
    s.arb.graceTimer.due = false →
    ∃ t, exec .tick s = .next t ∧
      t.clock = { count := 0, k := s.clock.pendingK.getD s.clock.k, pendingK := none } ∧
      (∀ i, (t.entry i).generation = (s.entry i).generation ∧
        (s.lease i = none → t.lease i = none) ∧
        (∀ l, s.lease i = some l → ¬ HeldOrParked l → t.lease i = some l) ∧
        ∀ l, s.lease i = some l → HeldOrParked l →
          (2 ≤ l.interval → t.lease i = some { l with interval := l.interval - 1 }) ∧
          (l.interval ≤ 1 → t.lease i = some { l with boundaryDue := true })) ∧
      t.waitList = s.waitList.map (fun w =>
        match w.remaining with
        | none => w
        | some n => if n ≤ 1 then { w with due := true } else { w with remaining := some (n - 1) }) ∧
      (s.arb.holdTimer.running = false → t.arb.holdTimer = s.arb.holdTimer) ∧
      (s.arb.holdTimer.running = true →
        (2 ≤ s.arb.holdTimer.count → t.arb.holdTimer = { s.arb.holdTimer with
          count := s.arb.holdTimer.count - 1 }) ∧
        (s.arb.holdTimer.count ≤ 1 → t.arb.holdTimer = { s.arb.holdTimer with due := true })) ∧
      (s.arb.graceTimer.running = false → t.arb.graceTimer = s.arb.graceTimer) ∧
      (s.arb.graceTimer.running = true →
        (2 ≤ s.arb.graceTimer.count → t.arb.graceTimer = { s.arb.graceTimer with
          count := s.arb.graceTimer.count - 1 }) ∧
        (s.arb.graceTimer.count ≤ 1 → t.arb.graceTimer = { s.arb.graceTimer with due := true })) ∧
      t.arb = { s.arb with holdTimer := t.arb.holdTimer, graceTimer := t.arb.graceTimer } ∧
      KeepsAllBut [.clock, .directory, .waitList, .arbiter] s t

/-- R50 to R52, R122: a boundary on a HELD entry above -8 draws one unit and reloads the countdown, with
EXPIRY_NEAR at -6; at -8 it revokes the lease with EXPIRED and the countdown stopped at 0, and a write stalled
under the entry is refused first. The mark that a boundary is due is the model's (log 4). -/
def Obligations.BoundaryDrawsOrRevokes : Prop :=
  ∀ (s : State) (i : EntryIx) (g : Byte) (l : Lease), s.resetLow = false →
    s.entry i = { generation := g, lease := some l } → l.boundaryDue = true → l.state = .held →
    (-8 < l.balance →
      ∃ t, exec (.termBoundary i) s = .next t ∧
        EntryBecomes i
          { generation := g
            lease := some { l with
              balance := l.balance - 1
              interval := (s.settings l.claim.target).term
              boundaryDue := false
              marks := { l.marks with
                expiryNear := if l.balance = -5 then true else l.marks.expiryNear } } } s t ∧
        KeepsAllBut [.directory] s t) ∧
    (l.balance ≤ -8 →
      let stopped : Lease := { l with interval := 0 }
      ∃ v, StalledRefused i .leaseRetiring s v ∧
        (l.outstanding ≠ 0 →
          ∃ t, exec (.termBoundary i) s = .next t ∧
            EntryBecomes i
              { generation := g, lease := some (stopped.movedTo (.revoking .expired false)) } v t ∧
            KeepsAllBut [.directory] v t) ∧
        (l.outstanding = 0 →
          ∃ u, exec (.termBoundary i) s = .next (scan u) ∧
            EntryBecomes i { generation := g, lease := some (stopped.tombstone .expired) } v u ∧
            KeepsAllBut [.directory] v u))

/-- R53: a boundary on a PARKED entry reloads the countdown and changes nothing else, whatever the balance;
UNPARK leaves the countdown where it stands, so that the next boundary comes at its count, and revokes at
-8; a RENEW of a PARKED entry adds its credit. The mark that a boundary is due is the model's (log 4); that no
PARKED entry fails UNPARK's test of its target is deduced (log 15). -/
def Obligations.BoundaryOfAParkedLease : Prop :=
  ∀ (s : State) (i : EntryIx) (g : Byte) (l : Lease), s.resetLow = false →
    s.entry i = { generation := g, lease := some l } →
    (l.boundaryDue = true → l.state = .parked →
      ∃ t, exec (.termBoundary i) s = .next t ∧
        EntryBecomes i
          { generation := g
            lease := some { l with
              interval := (s.settings l.claim.target).term, boundaryDue := false } } s t ∧
        KeepsAllBut [.directory] s t) ∧
    (∀ tag, InHandIs s l.holder tag (.unpark { index := byteOf i, generation := g }) → l.state = .parked →
      ∃ t, exec (.unpark l.holder) s = .next t ∧
        EntryBecomes i { generation := g, lease := some { l with state := .held } } s t) ∧
    (∀ tag n, InHandIs s l.holder tag (.renew { index := byteOf i, generation := g } n) →
      l.state = .parked → 1 ≤ n.toNat → n.toNat ≤ 8 → l.balance + n.toNat ≤ 8 →
      ∃ t, exec (.renew l.holder) s = .next t ∧
        EntryBecomes i { generation := g, lease := some { l with balance := l.balance + n.toNat } } s t) ∧
    (l.boundaryDue = true → l.state = .held → l.balance = -8 →
      ∃ t m, exec (.termBoundary i) s = .next t ∧ t.lease i = some m ∧ ¬ HeldOrParked m ∧
        m.state.reason = some .expired)

/-- R13, R74, R77: the end of a drain: a CLOSING entry is freed and its CLOSE, if still in hand, is answered
with the count it found; a REVOKING entry becomes a tombstone, or is freed if its reason is PORT_RESET or
release-on-drain is set; one scan starts. In a run the end of a drain lies within the step that causes it
(log 5). -/
def Obligations.DrainEndsInFreeOrTombstone : Prop :=
  ∀ (s : State) (i : EntryIx) (g : Byte) (l : Lease), s.resetLow = false →
    s.entry i = { generation := g, lease := some l } → l.outstanding = 0 →
    (l.state = .closing →
      (∀ tag r n, (s.link l.holder).link = .command
          { tag := tag, request := r, closing := some { index := i, found := n } } →
        ∃ u, exec (.closingDrainEnd i) s = .next (scan u) ∧
          EntryBecomes i { generation := g, lease := none } s u ∧
          Answered l.holder tag .ok [byteOf n, 0x00] s u ∧ KeepsAllBut [.directory, .links] s u) ∧
      ((∀ tag r n, (s.link l.holder).link ≠ .command
          { tag := tag, request := r, closing := some { index := i, found := n } }) →
        ∃ u, exec (.closingDrainEnd i) s = .next (scan u) ∧
          EntryBecomes i { generation := g, lease := none } s u ∧ KeepsAllBut [.directory] s u)) ∧
    ∀ r b, l.state = .revoking r b →
      ∃ u, exec (.revokingDrainEnd i) s = .next (scan u) ∧
        EntryBecomes i
          { generation := g
            lease := if r = .portReset ∨ b = true then none
              else some { l with state := .revoked r, marks := { l.marks with revoked := true } } } s u ∧
        KeepsAllBut [.directory] s u

/-! ### The bus -/

/-- R94, R97, R100, R101, R109: a rise from an IDLE port makes it WAITING (with an arbitration on a FREE
bus, a contender test otherwise); a fall withdraws, releases the bus or ends a preemption; while PRSTn is
low neither is acted on. That a rise of a line that is high has no effect is the model's choice (log 1); no
words on ID31-ID0 for a read's cycle that a release ends, and no values in force without an owner, are log 11
and log 14. -/
def Obligations.RequestLinesAreTaken : Prop :=
  ∀ (s : State) (p : Port), s.resetLow = false →
    let lined (b : Bool) (r : Requester) (u : State) : Prop :=
      u.requesting p = { s.requesting p with trq := b, req := r } ∧ RequestersBut p s u ∧
        u.arb = { s.arb with ports := u.arb.ports } ∧ KeepsAllBut [.arbiter] s u
    ((s.requesting p).trq = true → exec (.trqRise p) s = .next s) ∧
    ((s.requesting p).trq = false → exec (.trqFall p) s = .next s) ∧
    ((s.link p).prstLow = true →
      ((s.requesting p).trq = false →
        ∃ t, exec (.trqRise p) s = .next t ∧ lined true (s.requester p) t) ∧
      ((s.requesting p).trq = true →
        ∃ t, exec (.trqFall p) s = .next t ∧ lined false (s.requester p) t)) ∧
    ((s.link p).prstLow = false → (s.requesting p).trq = false →
      (s.requester p = .idle →
        ∃ u, lined true .waiting u ∧
          exec (.trqRise p) s = .next (if s.arb.bus = .free then arbitrate u else contenderTest u)) ∧
      (s.requester p ≠ .idle → ∃ t, exec (.trqRise p) s = .next t ∧ lined true (s.requester p) t)) ∧
    ((s.link p).prstLow = false → (s.requesting p).trq = true →
      (s.tgr p = false → ∃ t, exec (.trqFall p) s = .next t ∧ lined false .idle t) ∧
      (s.tgr p = true →
        ∃ u, exec (.trqFall p) s = .next (arbitrate u) ∧
          GrantLost p { s.requesting p with trq := false, req := .idle } s.arb.graceTimer.count s u ∧
          (s.inHand = true → u.stalled = none ∧
            u.answer = some { acks := 0, ierr := false, words := [] }) ∧
          (s.inHand = false → u.stalled = s.stalled ∧ u.answer = s.answer) ∧
          KeepsAllBut [.arbiter, .stalled, .answer, .read] s u))

/-- R47, R98, R99: an arbitration on a FREE bus grants it to the first port after the pointer of the highest
level held by a WAITING port, with that port's hold limit and grace in force; a hold limit of 0 loads no hold
timer, and a timer that is stopped keeps its count. -/
def Obligations.ArbitrationGrantsInTurn : Prop :=
  ∀ s : State,
    (s.arb.bus ≠ .free → arbitrate s = s) ∧
    ((∀ p, s.requester p ≠ .waiting) → arbitrate s = s) ∧
    (s.arb.bus = .free → ∀ p, s.requester p = .waiting →
      (∀ q, s.requester q = .waiting → (s.requesting q).level ≤ (s.requesting p).level) →
      (∀ q, s.requester q = .waiting → (s.requesting q).level = (s.requesting p).level →
        p - s.arb.pointers[(s.requesting p).level] - 1 ≤
          q - s.arb.pointers[(s.requesting p).level] - 1) →
      let r := s.requesting p
      ∃ t, arbitrate s = t ∧ t.requesting p = { r with req := .owner } ∧ RequestersBut p s t ∧
        t.arb.bus = .owned p ∧ t.arb.recent = some p ∧
        t.arb.inForce = some { hold := r.hold, grace := r.grace } ∧ t.arb.overdue = false ∧
        (r.hold = 0 → t.arb.holdTimer = { s.arb.holdTimer with running := false, due := false }) ∧
        (r.hold ≠ 0 → t.arb.holdTimer = { count := r.hold, running := true, due := false }) ∧
        t.arb.graceTimer = { s.arb.graceTimer with running := false, due := false } ∧
        (∀ lv : Fin 4, t.arb.pointers[lv] = if lv = r.level then p else s.arb.pointers[lv]) ∧
        t.tgr p = true ∧ KeepsAllBut [.arbiter] s t)

/-- R103, R104, R106, R107: at the hold timer's expiry, which leaves it at zero, the owner is asked to yield if a port waits at its
level or above, with the grace in force loaded, and is overdue if none does; an overdue owner is asked at
its next contender test. At the grace timer's expiry the YIELDING owner is preempted: one PREEMPTED fault,
of the access in hand if there is one, IERR for that access, and the bus to HANDOVER or to an arbitration.
The mark that an expiry is due is the model's (log 4); no words on ID31-ID0 for a preempted read's cycle, and
no values in force without an owner, are log 11 and log 14. -/
def Obligations.HoldAndGraceTimersEnforceTheYield : Prop :=
  (∀ (s : State) (p : Port) (f : InForce), s.resetLow = false → s.arb.bus = .owned p →
    s.requester p = .owner → s.arb.inForce = some f →
    let contender : Prop :=
      ∃ q, s.requester q = .waiting ∧ (s.requesting p).level ≤ (s.requesting q).level
    let yields (t : State) : Prop :=
      t.requesting p = { s.requesting p with req := .yielding } ∧ RequestersBut p s t ∧
        t.arb = { s.arb with
          ports := t.arb.ports
          holdTimer := t.arb.holdTimer
          graceTimer := { count := f.grace, running := true, due := false }
          overdue := false } ∧
        t.tgr p = true ∧ t.tyd p = true ∧ KeepsAllBut [.arbiter] s t
    (s.arb.holdTimer.due = true →
      (contender → ∃ t, exec .holdExpiry s = .next t ∧ yields t ∧
        t.arb.holdTimer = { count := 0, running := false, due := false }) ∧
      (¬ contender → ∃ t, exec .holdExpiry s = .next t ∧
        t.arb = { s.arb with
          holdTimer := { count := 0, running := false, due := false }, overdue := true } ∧
        KeepsAllBut [.arbiter] s t)) ∧
    (s.arb.overdue = true → (contender → yields (contenderTest s) ∧ (contenderTest s).arb.holdTimer = s.arb.holdTimer) ∧
      (¬ contender → contenderTest s = s))) ∧
  ∀ (s : State) (p : Port), s.resetLow = false → s.arb.bus = .owned p → s.requester p = .yielding →
    s.arb.graceTimer.due = true →
    ∃ u, exec .preemption s = .next (arbitrate u) ∧
      GrantLost p { s.requesting p with req := .preempted } 0 s u ∧
      (∀ w, s.stalled = some w → u.stalled = none ∧
        u.answer = some { acks := 0, ierr := true, words := [] } ∧
        FaultEntered p
          { reason := .preempted, access := some (w.address, .write), handle := some w.handle
            target := some w.target } s u) ∧
      (s.stalled = none → ∀ x, s.read = some x → x.deliver = true →
        u.answer = some { acks := 0, ierr := true, words := [] } ∧
        FaultEntered p
          { reason := .preempted, access := some (x.address, .read), handle := some x.handle
            target := some x.target } s u) ∧
      (s.inHand = false → u.answer = s.answer ∧
        FaultEntered p { reason := .preempted, access := none, handle := none, target := none } s u) ∧
      KeepsAllBut [.arbiter, .links, .stalled, .answer, .read] s u

/-! ### Accesses -/

/-- R12, R118 to R121, R123: an access of the owner that passes the checks is admitted under the
lowest-indexed entry of the owner that covers its page: a write joins the queue and is acknowledged, or stalls if the
queue is full; a read becomes the pending read; and an IDLE engine starts. -/
def Obligations.AccessIsAdmitted : Prop :=
  ∀ (s : State) (p : Port) (a : WordAddr) (i : EntryIx) (g : Byte) (l : Lease) (t : TargetIx)
    (d : Dir), s.resetLow = false → s.arb.bus = .owned p → s.inHand = false →
    s.entry i = { generation := g, lease := some l } →
    AdmissionPasses s p (pageOf (byteAddr a)) d i l t →
    l.holder = p ∧ l.claim.window.hasPage (pageOf (byteAddr a)) = true ∧
    (∀ j m, s.lease j = some m → m.occupying = true → m.holder = p →
      m.claim.window.hasPage (pageOf (byteAddr a)) = true → i ≤ j) ∧
    (∀ b data, d = .write → data.length = b.words →
      let w : PostedWrite := { handle := { index := i, generation := g }, port := p, target := t
                               address := byteAddr a, burst := b, data := data }
      (s.queue.length < 4 →
        ∃ v, exec (.access a (.write b data)) s = .next (startNext v) ∧ v.queue = s.queue ++ [w] ∧
          EntryBecomes i
            { generation := g, lease := some { l with outstanding := l.outstanding + 1 } } s v ∧
          v.answer = some { acks := b.words, ierr := false, words := [] } ∧
          KeepsAllBut [.queue, .directory, .answer] s v) ∧
      (4 ≤ s.queue.length →
        ∃ v, exec (.access a (.write b data)) s = .next v ∧ v.stalled = some w ∧
          KeepsAllBut [.stalled] s v)) ∧
    ∀ b, d = .read →
      ∃ v, exec (.access a (.read b)) s = .next (startNext v) ∧
        v.read = some { handle := { index := i, generation := g }, port := p, target := t
                        address := byteAddr a, burst := b, deliver := true, buffer := [] } ∧
        EntryBecomes i
          { generation := g, lease := some { l with outstanding := l.outstanding + 1 } } s v ∧
        KeepsAllBut [.read, .directory] s v

/-- R113, R115, R116: an access that fails a check, a broken write, and either of them without an owner end
with IERR (and zero words for a read) and one fault of their port, or of the port of the most recent grant if
there is one; nothing else changes; and while an access is in hand no access is presented. That an access
offered with one in hand has no effect is the model's choice (log 1). -/
def Obligations.AccessIsRefused : Prop :=
  ∀ (s : State) (a : WordAddr) (x : Access), s.resetLow = false → x.whole = true →
    let d := accessDir x
    let zeros := match x with
      | .read b => List.replicate b.words (0 : Word)
      | .write _ _ => []
    let refused (c : Instr) (p : Port) (f : AccessFault) (words : List Word) : Prop :=
      ∃ t, exec c s = .next t ∧ FaultEntered p f s t ∧
        t.answer = some { acks := 0, ierr := true, words := words } ∧ KeepsAllBut [.links, .answer] s t
    (∀ p, s.arb.bus = .owned p → s.inHand = false →
      (∀ r h t, AdmissionFails s p (pageOf (byteAddr a)) d r h t →
        refused (.access a x) p
          { reason := r, access := some (byteAddr a, d), handle := h, target := t } zeros) ∧
      ∀ b n, n < b.words →
        refused (.brokenWrite a b n) p
          { reason := .badBurst, access := some (byteAddr a, .write), handle := none
            target := s.targetOfPage (pageOf (byteAddr a)) } []) ∧
    (∀ p, s.arb.bus = .owned p → s.inHand = true →
      exec (.access a x) s = .next s ∧ ∀ b n, n < b.words → exec (.brokenWrite a b n) s = .next s) ∧
    ((∀ p, s.arb.bus ≠ .owned p) →
      (∀ p, s.arb.recent = some p →
        refused (.access a x) p
          { reason := .notOwner, access := some (byteAddr a, d), handle := none, target := none } zeros ∧
        ∀ b n, n < b.words → refused (.brokenWrite a b n) p
          { reason := .notOwner, access := some (byteAddr a, .write), handle := none, target := none } []) ∧
      (s.arb.recent = none →
        let unrecorded (c : Instr) (words : List Word) : Prop := ∃ t, exec c s = .next t ∧
          t.answer = some { acks := 0, ierr := true, words := words } ∧ KeepsAllBut [.answer] s t
        unrecorded (.access a x) zeros ∧ ∀ b n, n < b.words → unrecorded (.brokenWrite a b n) []))

/-- R122, R134, R135: a stalled write takes a free place; an engine without a current access starts the
queue's head, else the pending read, else the lowest-numbered target's probe, with the values of the
target's record. In a run both lie within the step that causes them (log 5). -/
def Obligations.EngineAdmitsAndStarts : Prop :=
  (∀ (s : State) (w : PostedWrite) (g : Byte) (l : Lease), s.resetLow = false → s.stalled = some w →
    s.entry w.handle.index = { generation := g, lease := some l } → s.queue.length < 4 →
    ∃ v, exec .stalledWriteAdmission s = .next (startNext v) ∧ v.stalled = none ∧
      v.queue = s.queue ++ [w] ∧
      EntryBecomes w.handle.index
        { generation := g, lease := some { l with outstanding := l.outstanding + 1 } } s v ∧
      v.answer = some { acks := w.burst.words, ierr := false, words := [] } ∧
      KeepsAllBut [.stalled, .queue, .directory, .answer] s v) ∧
  ∀ s : State, s.resetLow = false → s.current = none →
    let starts (h : Holding) (t : TargetIx) : Prop :=
      ∃ v, exec .accessStart s = .next v ∧ KeepsAllBut [.current] s v ∧
        v.current = some { holding := h, taken := 0, phase := .setup
                           waitStates := (s.settings t).waitStates
                           readyTimeout := (s.settings t).readyTimeout
                           base := (s.settings t).span.base }
    (∀ w rest, s.queue = w :: rest → starts .write w.target) ∧
    (s.queue = [] → ∀ x, s.read = some x → starts .read x.target) ∧
    (s.queue = [] → s.read = none → ∀ t, s.probe t ≠ none → (∀ u, u < t → s.probe u = none) →
      starts (.probe t) t) ∧
    (s.queue = [] → s.read = none → (∀ t, s.probe t = none) → exec .accessStart s = .next s)

/-- R135 to R137: an access of L words with w wait states and ready timeout T runs in reference periods. At a
target that holds TRDY high it is in its end period after 1 + L (w + 1); at one that holds it low it times
out at its first word, after 1 + w + T. Whatever TRDY does, it is there within 1 + L (w + T) periods, with all
its words taken and no earlier than 1 + L (w + 1), or timed out at its n-th word after n others; and the next
period is its end step, so that it ends within 2 + L (w + T). R136 lets a timeout end an access earlier than
R137's least. TRDY and TD31-TD0 are free values of the model (log 3). R114, R130, R135: TCS of the access's
target alone is low up to its end period; TA carries the offset in the span of the word being transferred, in
the order of the burst block, and TD the word of a write; an IDLE engine holds no TCS low, drives no TD and has
TWR low. No TA outside the words, no TD in the Start period of a write and TWR in its end period are the
model's choice (log 23). -/
def Obligations.AccessRunsInReferencePeriods : Prop :=
  (∀ s : State, s.current = none → (∀ t, s.tcsLow t = false) ∧ s.twr = false ∧ s.td = none ∧ s.ta = none) ∧
  (∀ (s : State) (t u : TargetIx), s.tcsLow t = true → s.tcsLow u = true → t = u) ∧
  (∀ (s : State) (c : Current), s.current = some c →
    let lines (t : TargetIx) (a : Addr) (words : Nat) (data : List Word) : Prop :=
      let block := a.toNat / (4 * words) * (4 * words)
      let word := block + (a.toNat - block + 4 * c.taken) % (4 * words)
      (∀ u, s.tcsLow u = true ↔ u = t ∧ ∀ b, c.phase ≠ .ending b) ∧
      (s.twr = true ↔ c.holding = .write) ∧
      (∀ w n, c.phase = .word w n →
        s.ta = some (BitVec.ofNat 24 (word - 4096 * c.base)) ∧ s.td = data[c.taken]?) ∧
      ((∀ w n, c.phase ≠ .word w n) → s.ta = none ∧ s.td = none)
    (∀ w rest, c.holding = .write → s.queue = w :: rest → lines w.target w.address w.burst.words w.data) ∧
    (∀ x, c.holding = .read → s.read = some x → lines x.target x.address x.burst.words []) ∧
    ∀ t x, c.holding = .probe t → s.probe t = some x → lines t x.address 1 []) ∧
  ∀ (s : State) (c : Current) (td : Word), s.current = some c → c.phase = .setup → c.taken = 0 →
    1 ≤ s.currentWords c.holding → s.holds c.holding →
    let L := s.currentWords c.holding
    (∃ t, (enginePeriod true td)^[1 + L * (c.waitStates + 1)] s = t ∧
      t.current = some { c with taken := L, phase := .ending false } ∧
      KeepsAllBut [.current, .read, .probes] s t ∧ (c.holding = .write → KeepsAllBut [.current] s t)) ∧
    (1 ≤ c.readyTimeout →
      (enginePeriod false td)^[1 + c.waitStates + c.readyTimeout] s =
        { s with current := some { c with phase := .ending true } }) ∧
    (1 ≤ c.readyTimeout → s.resetLow = false → (∀ x, s.read = some x → x.buffer = []) →
      ∀ inputs : List (Bool × Word), inputs.length = 1 + L * (c.waitStates + c.readyTimeout) →
        ∃ k n timedOut u, k ≤ inputs.length ∧ enginePeriods (inputs.take k) s = u ∧
          u.current = some { c with taken := n, phase := .ending timedOut } ∧
          KeepsAllBut [.current, .read, .probes] s u ∧
          (timedOut = false → n = L ∧ 1 + L * (c.waitStates + 1) ≤ k) ∧
          (timedOut = true → n < L ∧
            1 + n * (c.waitStates + 1) + c.waitStates + c.readyTimeout ≤ k) ∧
          ∀ trdy w, exec (endRow c.holding timedOut) u = .next (enginePeriod trdy w u))

/-- R12, R74, R77, R138 to R140, R159: the end step of a completed write or read: the access leaves the
engine, its lease's count falls, and a drain that this ends frees the entry and answers its CLOSE, or leaves
a tombstone; a delivered read returns its words, a completion restores the target; then the scan (if a drain
ended or the target was SUSPECT), the stalled write and the next access. The order of the parts of the step
is log 16, that the end of a drain is one of them is log 5, and that the row may come before the access's end
period is log 25. -/
def Obligations.AccessCompletes : Prop :=
  ∀ (s : State) (c : Current) (g : Byte) (l : Lease) (i : EntryIx) (t : TargetIx),
    s.resetLow = false → s.current = some c → c.phase ≠ .ending true →
    s.entry i = { generation := g, lease := some l } → 1 ≤ l.outstanding →
    (s.target t).state.inService = true →
    let finished (u : State) : Prop :=
      Finished i g l false (fun q => (s.link q).fault) s u ∧
      u.target t = { s.target t with state := .ready, timeouts := 0 } ∧ TargetsBut t s u
    let scans : Bool :=
      (l.draining && decide (l.outstanding = 1)) || decide ((s.target t).state = .suspect)
    (∀ w rest, c.holding = .write → s.queue = w :: rest → w.handle.index = i → w.target = t →
      ∃ u, exec .writeCompletion s = .next (endStep scans u) ∧ finished u ∧ u.queue = rest ∧
        KeepsAllBut [.current, .directory, .links, .targets, .queue, .lastEnd] s u) ∧
    ∀ x data, c.holding = .read → s.read = some x → x.handle.index = i → x.target = t →
      x.buffer.length + data.length = x.burst.words →
      ∃ u, exec (.readCompletion data) s = .next (endStep scans u) ∧ finished u ∧ u.read = none ∧
        (x.deliver = true →
          u.answer = some { acks := x.burst.words, ierr := false, words := x.buffer ++ data }) ∧
        (x.deliver = false → u.answer = s.answer) ∧
        (s.arb.bus ≠ .handover → u.arb = s.arb) ∧
        (s.arb.bus = .handover → u.arb = (arbitrate { s with arb := { s.arb with bus := .free } }).arb) ∧
        KeepsAllBut [.current, .directory, .links, .targets, .read, .lastEnd, .answer, .arbiter] s u

/-- R12, R74, R77, R136, R142, R143, R158: the end step of a write or read that times out at a target in
service: its lease's count falls, and a drain that this ends frees the entry and answers its CLOSE, or leaves
a tombstone; the write marks its lease WRITE_LOST and enters a fault, a delivered read ends with IERR, zero
words and a fault, a discarded read with neither; a READY target becomes SUSPECT with a count of 1, a SUSPECT
one counts 2 and is lost. The order of the parts of the step is log 16, that the end of a drain is one of
them is log 5, and that the row may come before the access's end period is log 25. -/
def Obligations.AccessTimesOut : Prop :=
  ∀ (s : State) (c : Current) (g : Byte) (l : Lease) (i : EntryIx) (t : TargetIx) (n : Nat),
    s.resetLow = false → s.current = some c → c.phase ≠ .ending false → (c.phase = .ending true → n = 0) →
    s.entry i = { generation := g, lease := some l } → 1 ≤ l.outstanding →
    (s.target t).state.inService = true →
    let finished (lost : Bool) (faults : Port → FaultRecord) (u : State) : Prop :=
      Finished i g l lost faults s u ∧
      u.target t =
        (if (s.target t).state = .ready then
          { s.target t with state := .suspect, timeouts := 1, lastFault := .accessTimeout }
        else { s.target t with timeouts := 2 }) ∧
      TargetsBut t s u
    let ended (u : State) : State :=
      if (s.target t).state = .ready then endStep (l.draining && decide (l.outstanding = 1)) u
      else endStep true (loseTarget t .accessTimeout u)
    (∀ w rest, c.holding = .write → s.queue = w :: rest → w.handle.index = i → w.target = t →
      c.taken + n < w.burst.words →
      ∃ u, exec (.writeTimeout n) s = .next (ended u) ∧
        finished true (fun q => if q = w.port then
            (s.link q).fault.enter
              { reason := .writeLost, access := some (w.address, .write), handle := some w.handle
                target := some t }
          else (s.link q).fault) u ∧
        u.queue = rest ∧
        u.lastEnd = some { holding := .write, target := t, address := w.address
                           taken := c.taken + n, timedOut := true } ∧
        KeepsAllBut [.current, .directory, .targets, .queue, .lastEnd, .links] s u) ∧
    ∀ x, c.holding = .read → s.read = some x → x.handle.index = i → x.target = t →
      c.taken + n < x.burst.words →
      ∃ u, exec (.readTimeout n) s = .next (ended u) ∧
        finished false (fun q => if x.deliver = true ∧ q = x.port then
            (s.link q).fault.enter
              { reason := .targetTimeout, access := some (x.address, .read), handle := some x.handle
                target := some t }
          else (s.link q).fault) u ∧
        u.read = none ∧
        (x.deliver = true →
          u.answer = some { acks := 0, ierr := true, words := List.replicate x.burst.words 0 }) ∧
        (x.deliver = false → u.answer = s.answer) ∧
        (s.arb.bus ≠ .handover → u.arb = s.arb) ∧
        (s.arb.bus = .handover → u.arb = (arbitrate { s with arb := { s.arb with bus := .free } }).arb) ∧
        KeepsAllBut [.current, .directory, .targets, .read, .lastEnd, .answer, .links, .arbiter] s u

/-- R135, R141, R144, R155: a probe that reads its signature makes its target READY; another word, or a
timeout, makes it OFFLINE through the loss step; a scan follows each. A word that the engine has captured
already is the probe's word. The order of the parts of the step is log 16, and that the row may come before
the probe's end period is log 25. -/
def Obligations.ProbeEndsInReadyOrOffline : Prop :=
  ∀ (s : State) (c : Current) (t : TargetIx) (x : Probe) (y : ProbeSetting), s.resetLow = false →
    s.current = some c → c.holding = .probe t → s.probe t = some x → (s.settings t).probe = some y →
    let cleared (u : State) : Prop :=
      u.probe t = none ∧ (∀ v, v ≠ t → u.probe v = s.probe v) ∧ u.current = none
    (∀ w, c.phase ≠ .ending true →
      let word := x.captured.getD w
      (word = y.signature →
        ∃ u, exec (.probeCompletion w) s = .next (endStep true u) ∧ cleared u ∧
          u.target t = { s.target t with state := .ready, probeResult := some word } ∧ TargetsBut t s u ∧
          KeepsAllBut [.probes, .current, .targets, .lastEnd] s u) ∧
      (word ≠ y.signature →
        ∃ u, exec (.probeCompletion w) s = .next (endStep true (loseTarget t .probeMismatch u)) ∧
          cleared u ∧ u.target t = { s.target t with probeResult := some word } ∧ TargetsBut t s u ∧
          KeepsAllBut [.probes, .current, .targets, .lastEnd] s u)) ∧
    (c.phase ≠ .ending false →
      ∃ u, exec .probeTimeout s = .next (endStep true (loseTarget t .probeTimeout u)) ∧ cleared u ∧
        KeepsAllBut [.probes, .current, .lastEnd] s u)

/-- R145, R160: the loss step: the target goes OFFLINE; its queued writes, its pending read, its stalled
write and its waiters are removed, with a fault for each write and for a delivered read, and IERR for the
cycle that ends; a HANDOVER for its read ends; its leases are settled by R160's table, and no other lease
changes. That the writes are discarded oldest first, which decides the fault that a port's record keeps, is
the model's choice (log 22). -/
def Obligations.LossSettlesTheTarget : Prop :=
  ∀ (s : State) (t : TargetIx) (f : LastFault),
    let u := loseTarget t f s
    u.target t = { s.target t with state := .offline, lastFault := f } ∧ TargetsBut t s u ∧
    u.queue = s.queue.filter (fun w => w.target != t) ∧
    u.waitList = s.waitList.filter (fun w => w.claim.target != t) ∧
    u.read = s.read.filter (fun x => x.target != t) ∧
    u.stalled = s.stalled.filter (fun w => w.target != t) ∧
    (∀ w, s.stalled = some w → w.target = t →
      u.answer = some { acks := 0, ierr := true, words := [] }) ∧
    (s.stalled = none → ∀ x, s.read = some x → x.target = t → x.deliver = true →
      u.answer = some { acks := 0, ierr := true, words := List.replicate x.burst.words 0 }) ∧
    ((∀ w, s.stalled = some w → w.target ≠ t) →
      (∀ x, s.read = some x → x.target = t → x.deliver = false) → u.answer = s.answer) ∧
    (let faults : List (Port × AccessFault) :=
        (s.queue.filter fun w => w.target == t).map (fun w => (w.port, w.fault .writeLost)) ++
          (s.read.filter fun x => x.target == t && x.deliver).toList.map
            (fun x => (x.port, x.fault .targetDown)) ++
          (s.stalled.filter fun w => w.target == t).toList.map (fun w => (w.port, w.fault .targetDown))
      ∀ p, (u.link p).fault =
        (faults.filter fun x => x.1 == p).foldl (fun r x => r.enter x.2) (s.link p).fault) ∧
    (∀ x, s.read = some x → x.target = t → s.arb.bus = .handover →
      u.arb = (arbitrate { s with arb := { s.arb with bus := .free } }).arb) ∧
    (s.arb.bus ≠ .handover ∨ (∀ x, s.read = some x → x.target ≠ t) → u.arb = s.arb) ∧
    (∀ p k, u.ticket p k =
      if s.waitList.any (fun w => w.claim.target == t && w.port == p && w.slot == k) then
        .refused .targetDown
      else s.ticket p k) ∧
    (∀ i, (u.entry i).generation = (s.entry i).generation ∧ (s.lease i = none → u.lease i = none)) ∧
    (∀ i l, s.lease i = some l → l.claim.target = t →
      let lost := l.marks.writeLost || s.queue.any fun w => w.target == t && w.handle.index == i
      let settled : Lease := { l with outstanding := 0, boundaryDue := false }
      (HeldOrParked l → u.lease i = some { settled with
        state := .revoked .targetLost, marks := { l.marks with revoked := true, writeLost := lost } }) ∧
      (∀ r b, l.state = .revoking r b → u.lease i =
        if r = .portReset ∨ b = true then none
        else some { settled with
          state := .revoked r, marks := { l.marks with revoked := true, writeLost := lost } }) ∧
      (∀ r, l.state = .revoked r →
        u.lease i = some { settled with marks := { l.marks with writeLost := lost } }) ∧
      (l.state = .closing → u.lease i = none ∧
        ∀ tag r n, (s.link l.holder).link = .command
            { tag := tag, request := r, closing := some { index := i, found := n } } →
          (u.link l.holder).link =
            .responseReady { tag := tag, status := .ok, results := [byteOf n, 0x03] })) ∧
    (∀ i l, s.lease i = some l → l.claim.target ≠ t →
      (∀ w, w ∈ s.queue → w.target = t → w.handle.index ≠ i) → u.lease i = some l) ∧
    KeepsAllBut [.directory, .links, .waitList, .arbiter, .stalled, .answer, .queue, .read, .targets] s u
end

