-- ==== Sys2Proof/Laws/State.lean ====
section
/-! SUPPORT. One lemma per field per update of a record of the state, true by definition; reading a record
after it or another one was replaced; and the reading functions through each update. -/

namespace Sys2Proof.Machine

/-! ### setEntry -/

@[simp] theorem setEntry_resetLow (s : State) (i : EntryIx) (e : Entry) : (s.setEntry i e).resetLow = s.resetLow := rfl
@[simp] theorem setEntry_quotas (s : State) (i : EntryIx) (e : Entry) : (s.setEntry i e).quotas = s.quotas := rfl
@[simp] theorem setEntry_waitList (s : State) (i : EntryIx) (e : Entry) : (s.setEntry i e).waitList = s.waitList := rfl
@[simp] theorem setEntry_links (s : State) (i : EntryIx) (e : Entry) : (s.setEntry i e).links = s.links := rfl
@[simp] theorem setEntry_clock (s : State) (i : EntryIx) (e : Entry) : (s.setEntry i e).clock = s.clock := rfl
@[simp] theorem setEntry_arb (s : State) (i : EntryIx) (e : Entry) : (s.setEntry i e).arb = s.arb := rfl
@[simp] theorem setEntry_stalled (s : State) (i : EntryIx) (e : Entry) : (s.setEntry i e).stalled = s.stalled := rfl
@[simp] theorem setEntry_answer (s : State) (i : EntryIx) (e : Entry) : (s.setEntry i e).answer = s.answer := rfl
@[simp] theorem setEntry_queue (s : State) (i : EntryIx) (e : Entry) : (s.setEntry i e).queue = s.queue := rfl
@[simp] theorem setEntry_read (s : State) (i : EntryIx) (e : Entry) : (s.setEntry i e).read = s.read := rfl
@[simp] theorem setEntry_probes (s : State) (i : EntryIx) (e : Entry) : (s.setEntry i e).probes = s.probes := rfl
@[simp] theorem setEntry_current (s : State) (i : EntryIx) (e : Entry) : (s.setEntry i e).current = s.current := rfl
@[simp] theorem setEntry_lastEnd (s : State) (i : EntryIx) (e : Entry) : (s.setEntry i e).lastEnd = s.lastEnd := rfl
@[simp] theorem setEntry_targets (s : State) (i : EntryIx) (e : Entry) : (s.setEntry i e).targets = s.targets := rfl
@[simp] theorem setEntry_periods (s : State) (i : EntryIx) (e : Entry) : (s.setEntry i e).periods = s.periods := rfl
@[simp] theorem setEntry_pending (s : State) (i : EntryIx) (e : Entry) : (s.setEntry i e).pending = s.pending := rfl

/-! ### setLease -/

@[simp] theorem setLease_resetLow (s : State) (i : EntryIx) (l : Option Lease) : (s.setLease i l).resetLow = s.resetLow := rfl
@[simp] theorem setLease_quotas (s : State) (i : EntryIx) (l : Option Lease) : (s.setLease i l).quotas = s.quotas := rfl
@[simp] theorem setLease_waitList (s : State) (i : EntryIx) (l : Option Lease) : (s.setLease i l).waitList = s.waitList := rfl
@[simp] theorem setLease_links (s : State) (i : EntryIx) (l : Option Lease) : (s.setLease i l).links = s.links := rfl
@[simp] theorem setLease_clock (s : State) (i : EntryIx) (l : Option Lease) : (s.setLease i l).clock = s.clock := rfl
@[simp] theorem setLease_arb (s : State) (i : EntryIx) (l : Option Lease) : (s.setLease i l).arb = s.arb := rfl
@[simp] theorem setLease_stalled (s : State) (i : EntryIx) (l : Option Lease) : (s.setLease i l).stalled = s.stalled := rfl
@[simp] theorem setLease_answer (s : State) (i : EntryIx) (l : Option Lease) : (s.setLease i l).answer = s.answer := rfl
@[simp] theorem setLease_queue (s : State) (i : EntryIx) (l : Option Lease) : (s.setLease i l).queue = s.queue := rfl
@[simp] theorem setLease_read (s : State) (i : EntryIx) (l : Option Lease) : (s.setLease i l).read = s.read := rfl
@[simp] theorem setLease_probes (s : State) (i : EntryIx) (l : Option Lease) : (s.setLease i l).probes = s.probes := rfl
@[simp] theorem setLease_current (s : State) (i : EntryIx) (l : Option Lease) : (s.setLease i l).current = s.current := rfl
@[simp] theorem setLease_lastEnd (s : State) (i : EntryIx) (l : Option Lease) : (s.setLease i l).lastEnd = s.lastEnd := rfl
@[simp] theorem setLease_targets (s : State) (i : EntryIx) (l : Option Lease) : (s.setLease i l).targets = s.targets := rfl
@[simp] theorem setLease_periods (s : State) (i : EntryIx) (l : Option Lease) : (s.setLease i l).periods = s.periods := rfl
@[simp] theorem setLease_pending (s : State) (i : EntryIx) (l : Option Lease) : (s.setLease i l).pending = s.pending := rfl

/-! ### setLink -/

@[simp] theorem setLink_resetLow (s : State) (p : Port) (u : LinkUnit) : (s.setLink p u).resetLow = s.resetLow := rfl
@[simp] theorem setLink_entries (s : State) (p : Port) (u : LinkUnit) : (s.setLink p u).entries = s.entries := rfl
@[simp] theorem setLink_quotas (s : State) (p : Port) (u : LinkUnit) : (s.setLink p u).quotas = s.quotas := rfl
@[simp] theorem setLink_waitList (s : State) (p : Port) (u : LinkUnit) : (s.setLink p u).waitList = s.waitList := rfl
@[simp] theorem setLink_clock (s : State) (p : Port) (u : LinkUnit) : (s.setLink p u).clock = s.clock := rfl
@[simp] theorem setLink_arb (s : State) (p : Port) (u : LinkUnit) : (s.setLink p u).arb = s.arb := rfl
@[simp] theorem setLink_stalled (s : State) (p : Port) (u : LinkUnit) : (s.setLink p u).stalled = s.stalled := rfl
@[simp] theorem setLink_answer (s : State) (p : Port) (u : LinkUnit) : (s.setLink p u).answer = s.answer := rfl
@[simp] theorem setLink_queue (s : State) (p : Port) (u : LinkUnit) : (s.setLink p u).queue = s.queue := rfl
@[simp] theorem setLink_read (s : State) (p : Port) (u : LinkUnit) : (s.setLink p u).read = s.read := rfl
@[simp] theorem setLink_probes (s : State) (p : Port) (u : LinkUnit) : (s.setLink p u).probes = s.probes := rfl
@[simp] theorem setLink_current (s : State) (p : Port) (u : LinkUnit) : (s.setLink p u).current = s.current := rfl
@[simp] theorem setLink_lastEnd (s : State) (p : Port) (u : LinkUnit) : (s.setLink p u).lastEnd = s.lastEnd := rfl
@[simp] theorem setLink_targets (s : State) (p : Port) (u : LinkUnit) : (s.setLink p u).targets = s.targets := rfl
@[simp] theorem setLink_periods (s : State) (p : Port) (u : LinkUnit) : (s.setLink p u).periods = s.periods := rfl
@[simp] theorem setLink_pending (s : State) (p : Port) (u : LinkUnit) : (s.setLink p u).pending = s.pending := rfl

/-! ### setTicket -/

@[simp] theorem setTicket_resetLow (s : State) (p : Port) (k : Slot) (t : Ticket) : (s.setTicket p k t).resetLow = s.resetLow := rfl
@[simp] theorem setTicket_entries (s : State) (p : Port) (k : Slot) (t : Ticket) : (s.setTicket p k t).entries = s.entries := rfl
@[simp] theorem setTicket_quotas (s : State) (p : Port) (k : Slot) (t : Ticket) : (s.setTicket p k t).quotas = s.quotas := rfl
@[simp] theorem setTicket_waitList (s : State) (p : Port) (k : Slot) (t : Ticket) : (s.setTicket p k t).waitList = s.waitList := rfl
@[simp] theorem setTicket_clock (s : State) (p : Port) (k : Slot) (t : Ticket) : (s.setTicket p k t).clock = s.clock := rfl
@[simp] theorem setTicket_arb (s : State) (p : Port) (k : Slot) (t : Ticket) : (s.setTicket p k t).arb = s.arb := rfl
@[simp] theorem setTicket_stalled (s : State) (p : Port) (k : Slot) (t : Ticket) : (s.setTicket p k t).stalled = s.stalled := rfl
@[simp] theorem setTicket_answer (s : State) (p : Port) (k : Slot) (t : Ticket) : (s.setTicket p k t).answer = s.answer := rfl
@[simp] theorem setTicket_queue (s : State) (p : Port) (k : Slot) (t : Ticket) : (s.setTicket p k t).queue = s.queue := rfl
@[simp] theorem setTicket_read (s : State) (p : Port) (k : Slot) (t : Ticket) : (s.setTicket p k t).read = s.read := rfl
@[simp] theorem setTicket_probes (s : State) (p : Port) (k : Slot) (t : Ticket) : (s.setTicket p k t).probes = s.probes := rfl
@[simp] theorem setTicket_current (s : State) (p : Port) (k : Slot) (t : Ticket) : (s.setTicket p k t).current = s.current := rfl
@[simp] theorem setTicket_lastEnd (s : State) (p : Port) (k : Slot) (t : Ticket) : (s.setTicket p k t).lastEnd = s.lastEnd := rfl
@[simp] theorem setTicket_targets (s : State) (p : Port) (k : Slot) (t : Ticket) : (s.setTicket p k t).targets = s.targets := rfl
@[simp] theorem setTicket_periods (s : State) (p : Port) (k : Slot) (t : Ticket) : (s.setTicket p k t).periods = s.periods := rfl
@[simp] theorem setTicket_pending (s : State) (p : Port) (k : Slot) (t : Ticket) : (s.setTicket p k t).pending = s.pending := rfl

/-! ### setTarget -/

@[simp] theorem setTarget_resetLow (s : State) (t : TargetIx) (r : TargetRecord) : (s.setTarget t r).resetLow = s.resetLow := rfl
@[simp] theorem setTarget_entries (s : State) (t : TargetIx) (r : TargetRecord) : (s.setTarget t r).entries = s.entries := rfl
@[simp] theorem setTarget_quotas (s : State) (t : TargetIx) (r : TargetRecord) : (s.setTarget t r).quotas = s.quotas := rfl
@[simp] theorem setTarget_waitList (s : State) (t : TargetIx) (r : TargetRecord) : (s.setTarget t r).waitList = s.waitList := rfl
@[simp] theorem setTarget_links (s : State) (t : TargetIx) (r : TargetRecord) : (s.setTarget t r).links = s.links := rfl
@[simp] theorem setTarget_clock (s : State) (t : TargetIx) (r : TargetRecord) : (s.setTarget t r).clock = s.clock := rfl
@[simp] theorem setTarget_arb (s : State) (t : TargetIx) (r : TargetRecord) : (s.setTarget t r).arb = s.arb := rfl
@[simp] theorem setTarget_stalled (s : State) (t : TargetIx) (r : TargetRecord) : (s.setTarget t r).stalled = s.stalled := rfl
@[simp] theorem setTarget_answer (s : State) (t : TargetIx) (r : TargetRecord) : (s.setTarget t r).answer = s.answer := rfl
@[simp] theorem setTarget_queue (s : State) (t : TargetIx) (r : TargetRecord) : (s.setTarget t r).queue = s.queue := rfl
@[simp] theorem setTarget_read (s : State) (t : TargetIx) (r : TargetRecord) : (s.setTarget t r).read = s.read := rfl
@[simp] theorem setTarget_probes (s : State) (t : TargetIx) (r : TargetRecord) : (s.setTarget t r).probes = s.probes := rfl
@[simp] theorem setTarget_current (s : State) (t : TargetIx) (r : TargetRecord) : (s.setTarget t r).current = s.current := rfl
@[simp] theorem setTarget_lastEnd (s : State) (t : TargetIx) (r : TargetRecord) : (s.setTarget t r).lastEnd = s.lastEnd := rfl
@[simp] theorem setTarget_periods (s : State) (t : TargetIx) (r : TargetRecord) : (s.setTarget t r).periods = s.periods := rfl
@[simp] theorem setTarget_pending (s : State) (t : TargetIx) (r : TargetRecord) : (s.setTarget t r).pending = s.pending := rfl

/-! ### setProbe -/

@[simp] theorem setProbe_resetLow (s : State) (t : TargetIx) (x : Option Probe) : (s.setProbe t x).resetLow = s.resetLow := rfl
@[simp] theorem setProbe_entries (s : State) (t : TargetIx) (x : Option Probe) : (s.setProbe t x).entries = s.entries := rfl
@[simp] theorem setProbe_quotas (s : State) (t : TargetIx) (x : Option Probe) : (s.setProbe t x).quotas = s.quotas := rfl
@[simp] theorem setProbe_waitList (s : State) (t : TargetIx) (x : Option Probe) : (s.setProbe t x).waitList = s.waitList := rfl
@[simp] theorem setProbe_links (s : State) (t : TargetIx) (x : Option Probe) : (s.setProbe t x).links = s.links := rfl
@[simp] theorem setProbe_clock (s : State) (t : TargetIx) (x : Option Probe) : (s.setProbe t x).clock = s.clock := rfl
@[simp] theorem setProbe_arb (s : State) (t : TargetIx) (x : Option Probe) : (s.setProbe t x).arb = s.arb := rfl
@[simp] theorem setProbe_stalled (s : State) (t : TargetIx) (x : Option Probe) : (s.setProbe t x).stalled = s.stalled := rfl
@[simp] theorem setProbe_answer (s : State) (t : TargetIx) (x : Option Probe) : (s.setProbe t x).answer = s.answer := rfl
@[simp] theorem setProbe_queue (s : State) (t : TargetIx) (x : Option Probe) : (s.setProbe t x).queue = s.queue := rfl
@[simp] theorem setProbe_read (s : State) (t : TargetIx) (x : Option Probe) : (s.setProbe t x).read = s.read := rfl
@[simp] theorem setProbe_current (s : State) (t : TargetIx) (x : Option Probe) : (s.setProbe t x).current = s.current := rfl
@[simp] theorem setProbe_lastEnd (s : State) (t : TargetIx) (x : Option Probe) : (s.setProbe t x).lastEnd = s.lastEnd := rfl
@[simp] theorem setProbe_targets (s : State) (t : TargetIx) (x : Option Probe) : (s.setProbe t x).targets = s.targets := rfl
@[simp] theorem setProbe_periods (s : State) (t : TargetIx) (x : Option Probe) : (s.setProbe t x).periods = s.periods := rfl
@[simp] theorem setProbe_pending (s : State) (t : TargetIx) (x : Option Probe) : (s.setProbe t x).pending = s.pending := rfl

/-! ### setRequesting -/

@[simp] theorem setRequesting_resetLow (s : State) (p : Port) (r : Requesting) : (s.setRequesting p r).resetLow = s.resetLow := rfl
@[simp] theorem setRequesting_entries (s : State) (p : Port) (r : Requesting) : (s.setRequesting p r).entries = s.entries := rfl
@[simp] theorem setRequesting_quotas (s : State) (p : Port) (r : Requesting) : (s.setRequesting p r).quotas = s.quotas := rfl
@[simp] theorem setRequesting_waitList (s : State) (p : Port) (r : Requesting) : (s.setRequesting p r).waitList = s.waitList := rfl
@[simp] theorem setRequesting_links (s : State) (p : Port) (r : Requesting) : (s.setRequesting p r).links = s.links := rfl
@[simp] theorem setRequesting_clock (s : State) (p : Port) (r : Requesting) : (s.setRequesting p r).clock = s.clock := rfl
@[simp] theorem setRequesting_stalled (s : State) (p : Port) (r : Requesting) : (s.setRequesting p r).stalled = s.stalled := rfl
@[simp] theorem setRequesting_answer (s : State) (p : Port) (r : Requesting) : (s.setRequesting p r).answer = s.answer := rfl
@[simp] theorem setRequesting_queue (s : State) (p : Port) (r : Requesting) : (s.setRequesting p r).queue = s.queue := rfl
@[simp] theorem setRequesting_read (s : State) (p : Port) (r : Requesting) : (s.setRequesting p r).read = s.read := rfl
@[simp] theorem setRequesting_probes (s : State) (p : Port) (r : Requesting) : (s.setRequesting p r).probes = s.probes := rfl
@[simp] theorem setRequesting_current (s : State) (p : Port) (r : Requesting) : (s.setRequesting p r).current = s.current := rfl
@[simp] theorem setRequesting_lastEnd (s : State) (p : Port) (r : Requesting) : (s.setRequesting p r).lastEnd = s.lastEnd := rfl
@[simp] theorem setRequesting_targets (s : State) (p : Port) (r : Requesting) : (s.setRequesting p r).targets = s.targets := rfl
@[simp] theorem setRequesting_periods (s : State) (p : Port) (r : Requesting) : (s.setRequesting p r).periods = s.periods := rfl
@[simp] theorem setRequesting_pending (s : State) (p : Port) (r : Requesting) : (s.setRequesting p r).pending = s.pending := rfl

/-! ### setRequester -/

@[simp] theorem setRequester_resetLow (s : State) (p : Port) (r : Requester) : (s.setRequester p r).resetLow = s.resetLow := rfl
@[simp] theorem setRequester_entries (s : State) (p : Port) (r : Requester) : (s.setRequester p r).entries = s.entries := rfl
@[simp] theorem setRequester_quotas (s : State) (p : Port) (r : Requester) : (s.setRequester p r).quotas = s.quotas := rfl
@[simp] theorem setRequester_waitList (s : State) (p : Port) (r : Requester) : (s.setRequester p r).waitList = s.waitList := rfl
@[simp] theorem setRequester_links (s : State) (p : Port) (r : Requester) : (s.setRequester p r).links = s.links := rfl
@[simp] theorem setRequester_clock (s : State) (p : Port) (r : Requester) : (s.setRequester p r).clock = s.clock := rfl
@[simp] theorem setRequester_stalled (s : State) (p : Port) (r : Requester) : (s.setRequester p r).stalled = s.stalled := rfl
@[simp] theorem setRequester_answer (s : State) (p : Port) (r : Requester) : (s.setRequester p r).answer = s.answer := rfl
@[simp] theorem setRequester_queue (s : State) (p : Port) (r : Requester) : (s.setRequester p r).queue = s.queue := rfl
@[simp] theorem setRequester_read (s : State) (p : Port) (r : Requester) : (s.setRequester p r).read = s.read := rfl
@[simp] theorem setRequester_probes (s : State) (p : Port) (r : Requester) : (s.setRequester p r).probes = s.probes := rfl
@[simp] theorem setRequester_current (s : State) (p : Port) (r : Requester) : (s.setRequester p r).current = s.current := rfl
@[simp] theorem setRequester_lastEnd (s : State) (p : Port) (r : Requester) : (s.setRequester p r).lastEnd = s.lastEnd := rfl
@[simp] theorem setRequester_targets (s : State) (p : Port) (r : Requester) : (s.setRequester p r).targets = s.targets := rfl
@[simp] theorem setRequester_periods (s : State) (p : Port) (r : Requester) : (s.setRequester p r).periods = s.periods := rfl
@[simp] theorem setRequester_pending (s : State) (p : Port) (r : Requester) : (s.setRequester p r).pending = s.pending := rfl

/-! ### setTrq -/

@[simp] theorem setTrq_resetLow (s : State) (p : Port) (b : Bool) : (s.setTrq p b).resetLow = s.resetLow := rfl
@[simp] theorem setTrq_entries (s : State) (p : Port) (b : Bool) : (s.setTrq p b).entries = s.entries := rfl
@[simp] theorem setTrq_quotas (s : State) (p : Port) (b : Bool) : (s.setTrq p b).quotas = s.quotas := rfl
@[simp] theorem setTrq_waitList (s : State) (p : Port) (b : Bool) : (s.setTrq p b).waitList = s.waitList := rfl
@[simp] theorem setTrq_links (s : State) (p : Port) (b : Bool) : (s.setTrq p b).links = s.links := rfl
@[simp] theorem setTrq_clock (s : State) (p : Port) (b : Bool) : (s.setTrq p b).clock = s.clock := rfl
@[simp] theorem setTrq_stalled (s : State) (p : Port) (b : Bool) : (s.setTrq p b).stalled = s.stalled := rfl
@[simp] theorem setTrq_answer (s : State) (p : Port) (b : Bool) : (s.setTrq p b).answer = s.answer := rfl
@[simp] theorem setTrq_queue (s : State) (p : Port) (b : Bool) : (s.setTrq p b).queue = s.queue := rfl
@[simp] theorem setTrq_read (s : State) (p : Port) (b : Bool) : (s.setTrq p b).read = s.read := rfl
@[simp] theorem setTrq_probes (s : State) (p : Port) (b : Bool) : (s.setTrq p b).probes = s.probes := rfl
@[simp] theorem setTrq_current (s : State) (p : Port) (b : Bool) : (s.setTrq p b).current = s.current := rfl
@[simp] theorem setTrq_lastEnd (s : State) (p : Port) (b : Bool) : (s.setTrq p b).lastEnd = s.lastEnd := rfl
@[simp] theorem setTrq_targets (s : State) (p : Port) (b : Bool) : (s.setTrq p b).targets = s.targets := rfl
@[simp] theorem setTrq_periods (s : State) (p : Port) (b : Bool) : (s.setTrq p b).periods = s.periods := rfl
@[simp] theorem setTrq_pending (s : State) (p : Port) (b : Bool) : (s.setTrq p b).pending = s.pending := rfl

/-! ### The reading functions through the updates of other parts -/

@[simp] theorem setLink_entry (s : State) (p : Port) (u : LinkUnit) (j : EntryIx) :
    (s.setLink p u).entry j = s.entry j := rfl
@[simp] theorem setTicket_entry (s : State) (p : Port) (k : Slot) (t : Ticket) (j : EntryIx) :
    (s.setTicket p k t).entry j = s.entry j := rfl
@[simp] theorem setTarget_entry (s : State) (t : TargetIx) (r : TargetRecord) (j : EntryIx) :
    (s.setTarget t r).entry j = s.entry j := rfl
@[simp] theorem setProbe_entry (s : State) (t : TargetIx) (x : Option Probe) (j : EntryIx) :
    (s.setProbe t x).entry j = s.entry j := rfl
@[simp] theorem setRequesting_entry (s : State) (p : Port) (r : Requesting) (j : EntryIx) :
    (s.setRequesting p r).entry j = s.entry j := rfl
@[simp] theorem setRequester_entry (s : State) (p : Port) (r : Requester) (j : EntryIx) :
    (s.setRequester p r).entry j = s.entry j := rfl
@[simp] theorem setTrq_entry (s : State) (p : Port) (b : Bool) (j : EntryIx) :
    (s.setTrq p b).entry j = s.entry j := rfl

@[simp] theorem setLink_lease (s : State) (p : Port) (u : LinkUnit) (j : EntryIx) :
    (s.setLink p u).lease j = s.lease j := rfl
@[simp] theorem setTicket_lease (s : State) (p : Port) (k : Slot) (t : Ticket) (j : EntryIx) :
    (s.setTicket p k t).lease j = s.lease j := rfl
@[simp] theorem setTarget_lease (s : State) (t : TargetIx) (r : TargetRecord) (j : EntryIx) :
    (s.setTarget t r).lease j = s.lease j := rfl
@[simp] theorem setProbe_lease (s : State) (t : TargetIx) (x : Option Probe) (j : EntryIx) :
    (s.setProbe t x).lease j = s.lease j := rfl
@[simp] theorem setRequesting_lease (s : State) (p : Port) (r : Requesting) (j : EntryIx) :
    (s.setRequesting p r).lease j = s.lease j := rfl
@[simp] theorem setRequester_lease (s : State) (p : Port) (r : Requester) (j : EntryIx) :
    (s.setRequester p r).lease j = s.lease j := rfl
@[simp] theorem setTrq_lease (s : State) (p : Port) (b : Bool) (j : EntryIx) :
    (s.setTrq p b).lease j = s.lease j := rfl

@[simp] theorem setEntry_link (s : State) (i : EntryIx) (e : Entry) (q : Port) :
    (s.setEntry i e).link q = s.link q := rfl
@[simp] theorem setLease_link (s : State) (i : EntryIx) (l : Option Lease) (q : Port) :
    (s.setLease i l).link q = s.link q := rfl
@[simp] theorem setTarget_link (s : State) (t : TargetIx) (r : TargetRecord) (q : Port) :
    (s.setTarget t r).link q = s.link q := rfl
@[simp] theorem setProbe_link (s : State) (t : TargetIx) (x : Option Probe) (q : Port) :
    (s.setProbe t x).link q = s.link q := rfl
@[simp] theorem setRequesting_link (s : State) (p : Port) (r : Requesting) (q : Port) :
    (s.setRequesting p r).link q = s.link q := rfl
@[simp] theorem setRequester_link (s : State) (p : Port) (r : Requester) (q : Port) :
    (s.setRequester p r).link q = s.link q := rfl
@[simp] theorem setTrq_link (s : State) (p : Port) (b : Bool) (q : Port) :
    (s.setTrq p b).link q = s.link q := rfl

@[simp] theorem setEntry_ticket (s : State) (i : EntryIx) (e : Entry) (q : Port) (m : Slot) :
    (s.setEntry i e).ticket q m = s.ticket q m := rfl
@[simp] theorem setLease_ticket (s : State) (i : EntryIx) (l : Option Lease) (q : Port) (m : Slot) :
    (s.setLease i l).ticket q m = s.ticket q m := rfl
@[simp] theorem setTarget_ticket (s : State) (t : TargetIx) (r : TargetRecord) (q : Port) (m : Slot) :
    (s.setTarget t r).ticket q m = s.ticket q m := rfl
@[simp] theorem setProbe_ticket (s : State) (t : TargetIx) (x : Option Probe) (q : Port) (m : Slot) :
    (s.setProbe t x).ticket q m = s.ticket q m := rfl
@[simp] theorem setRequesting_ticket (s : State) (p : Port) (r : Requesting) (q : Port) (m : Slot) :
    (s.setRequesting p r).ticket q m = s.ticket q m := rfl
@[simp] theorem setRequester_ticket (s : State) (p : Port) (r : Requester) (q : Port) (m : Slot) :
    (s.setRequester p r).ticket q m = s.ticket q m := rfl
@[simp] theorem setTrq_ticket (s : State) (p : Port) (b : Bool) (q : Port) (m : Slot) :
    (s.setTrq p b).ticket q m = s.ticket q m := rfl

@[simp] theorem setEntry_target (s : State) (i : EntryIx) (e : Entry) (v : TargetIx) :
    (s.setEntry i e).target v = s.target v := rfl
@[simp] theorem setLease_target (s : State) (i : EntryIx) (l : Option Lease) (v : TargetIx) :
    (s.setLease i l).target v = s.target v := rfl
@[simp] theorem setLink_target (s : State) (p : Port) (u : LinkUnit) (v : TargetIx) :
    (s.setLink p u).target v = s.target v := rfl
@[simp] theorem setTicket_target (s : State) (p : Port) (k : Slot) (t : Ticket) (v : TargetIx) :
    (s.setTicket p k t).target v = s.target v := rfl
@[simp] theorem setProbe_target (s : State) (t : TargetIx) (x : Option Probe) (v : TargetIx) :
    (s.setProbe t x).target v = s.target v := rfl
@[simp] theorem setRequesting_target (s : State) (p : Port) (r : Requesting) (v : TargetIx) :
    (s.setRequesting p r).target v = s.target v := rfl
@[simp] theorem setRequester_target (s : State) (p : Port) (r : Requester) (v : TargetIx) :
    (s.setRequester p r).target v = s.target v := rfl
@[simp] theorem setTrq_target (s : State) (p : Port) (b : Bool) (v : TargetIx) :
    (s.setTrq p b).target v = s.target v := rfl

@[simp] theorem setEntry_span (s : State) (i : EntryIx) (e : Entry) (v : TargetIx) :
    (s.setEntry i e).span v = s.span v := rfl
@[simp] theorem setLease_span (s : State) (i : EntryIx) (l : Option Lease) (v : TargetIx) :
    (s.setLease i l).span v = s.span v := rfl
@[simp] theorem setLink_span (s : State) (p : Port) (u : LinkUnit) (v : TargetIx) :
    (s.setLink p u).span v = s.span v := rfl
@[simp] theorem setTicket_span (s : State) (p : Port) (k : Slot) (t : Ticket) (v : TargetIx) :
    (s.setTicket p k t).span v = s.span v := rfl
@[simp] theorem setProbe_span (s : State) (t : TargetIx) (x : Option Probe) (v : TargetIx) :
    (s.setProbe t x).span v = s.span v := rfl
@[simp] theorem setRequesting_span (s : State) (p : Port) (r : Requesting) (v : TargetIx) :
    (s.setRequesting p r).span v = s.span v := rfl
@[simp] theorem setRequester_span (s : State) (p : Port) (r : Requester) (v : TargetIx) :
    (s.setRequester p r).span v = s.span v := rfl
@[simp] theorem setTrq_span (s : State) (p : Port) (b : Bool) (v : TargetIx) :
    (s.setTrq p b).span v = s.span v := rfl

@[simp] theorem setEntry_settings (s : State) (i : EntryIx) (e : Entry) (v : TargetIx) :
    (s.setEntry i e).settings v = s.settings v := rfl
@[simp] theorem setLease_settings (s : State) (i : EntryIx) (l : Option Lease) (v : TargetIx) :
    (s.setLease i l).settings v = s.settings v := rfl
@[simp] theorem setLink_settings (s : State) (p : Port) (u : LinkUnit) (v : TargetIx) :
    (s.setLink p u).settings v = s.settings v := rfl
@[simp] theorem setTicket_settings (s : State) (p : Port) (k : Slot) (t : Ticket) (v : TargetIx) :
    (s.setTicket p k t).settings v = s.settings v := rfl
@[simp] theorem setProbe_settings (s : State) (t : TargetIx) (x : Option Probe) (v : TargetIx) :
    (s.setProbe t x).settings v = s.settings v := rfl
@[simp] theorem setRequesting_settings (s : State) (p : Port) (r : Requesting) (v : TargetIx) :
    (s.setRequesting p r).settings v = s.settings v := rfl
@[simp] theorem setRequester_settings (s : State) (p : Port) (r : Requester) (v : TargetIx) :
    (s.setRequester p r).settings v = s.settings v := rfl
@[simp] theorem setTrq_settings (s : State) (p : Port) (b : Bool) (v : TargetIx) :
    (s.setTrq p b).settings v = s.settings v := rfl

@[simp] theorem setEntry_quota (s : State) (i : EntryIx) (e : Entry) (q : Port) :
    (s.setEntry i e).quota q = s.quota q := rfl
@[simp] theorem setLease_quota (s : State) (i : EntryIx) (l : Option Lease) (q : Port) :
    (s.setLease i l).quota q = s.quota q := rfl
@[simp] theorem setLink_quota (s : State) (p : Port) (u : LinkUnit) (q : Port) :
    (s.setLink p u).quota q = s.quota q := rfl
@[simp] theorem setTicket_quota (s : State) (p : Port) (k : Slot) (t : Ticket) (q : Port) :
    (s.setTicket p k t).quota q = s.quota q := rfl
@[simp] theorem setTarget_quota (s : State) (t : TargetIx) (r : TargetRecord) (q : Port) :
    (s.setTarget t r).quota q = s.quota q := rfl
@[simp] theorem setProbe_quota (s : State) (t : TargetIx) (x : Option Probe) (q : Port) :
    (s.setProbe t x).quota q = s.quota q := rfl
@[simp] theorem setRequesting_quota (s : State) (p : Port) (r : Requesting) (q : Port) :
    (s.setRequesting p r).quota q = s.quota q := rfl
@[simp] theorem setRequester_quota (s : State) (p : Port) (r : Requester) (q : Port) :
    (s.setRequester p r).quota q = s.quota q := rfl
@[simp] theorem setTrq_quota (s : State) (p : Port) (b : Bool) (q : Port) :
    (s.setTrq p b).quota q = s.quota q := rfl

@[simp] theorem setEntry_probe (s : State) (i : EntryIx) (e : Entry) (v : TargetIx) :
    (s.setEntry i e).probe v = s.probe v := rfl
@[simp] theorem setLease_probe (s : State) (i : EntryIx) (l : Option Lease) (v : TargetIx) :
    (s.setLease i l).probe v = s.probe v := rfl
@[simp] theorem setLink_probe (s : State) (p : Port) (u : LinkUnit) (v : TargetIx) :
    (s.setLink p u).probe v = s.probe v := rfl
@[simp] theorem setTicket_probe (s : State) (p : Port) (k : Slot) (t : Ticket) (v : TargetIx) :
    (s.setTicket p k t).probe v = s.probe v := rfl
@[simp] theorem setTarget_probe (s : State) (t : TargetIx) (r : TargetRecord) (v : TargetIx) :
    (s.setTarget t r).probe v = s.probe v := rfl
@[simp] theorem setRequesting_probe (s : State) (p : Port) (r : Requesting) (v : TargetIx) :
    (s.setRequesting p r).probe v = s.probe v := rfl
@[simp] theorem setRequester_probe (s : State) (p : Port) (r : Requester) (v : TargetIx) :
    (s.setRequester p r).probe v = s.probe v := rfl
@[simp] theorem setTrq_probe (s : State) (p : Port) (b : Bool) (v : TargetIx) :
    (s.setTrq p b).probe v = s.probe v := rfl

@[simp] theorem setEntry_requesting (s : State) (i : EntryIx) (e : Entry) (q : Port) :
    (s.setEntry i e).requesting q = s.requesting q := rfl
@[simp] theorem setLease_requesting (s : State) (i : EntryIx) (l : Option Lease) (q : Port) :
    (s.setLease i l).requesting q = s.requesting q := rfl
@[simp] theorem setLink_requesting (s : State) (p : Port) (u : LinkUnit) (q : Port) :
    (s.setLink p u).requesting q = s.requesting q := rfl
@[simp] theorem setTicket_requesting (s : State) (p : Port) (k : Slot) (t : Ticket) (q : Port) :
    (s.setTicket p k t).requesting q = s.requesting q := rfl
@[simp] theorem setTarget_requesting (s : State) (t : TargetIx) (r : TargetRecord) (q : Port) :
    (s.setTarget t r).requesting q = s.requesting q := rfl
@[simp] theorem setProbe_requesting (s : State) (t : TargetIx) (x : Option Probe) (q : Port) :
    (s.setProbe t x).requesting q = s.requesting q := rfl

@[simp] theorem setEntry_requester (s : State) (i : EntryIx) (e : Entry) (q : Port) :
    (s.setEntry i e).requester q = s.requester q := rfl
@[simp] theorem setLease_requester (s : State) (i : EntryIx) (l : Option Lease) (q : Port) :
    (s.setLease i l).requester q = s.requester q := rfl
@[simp] theorem setLink_requester (s : State) (p : Port) (u : LinkUnit) (q : Port) :
    (s.setLink p u).requester q = s.requester q := rfl
@[simp] theorem setTicket_requester (s : State) (p : Port) (k : Slot) (t : Ticket) (q : Port) :
    (s.setTicket p k t).requester q = s.requester q := rfl
@[simp] theorem setTarget_requester (s : State) (t : TargetIx) (r : TargetRecord) (q : Port) :
    (s.setTarget t r).requester q = s.requester q := rfl
@[simp] theorem setProbe_requester (s : State) (t : TargetIx) (x : Option Probe) (q : Port) :
    (s.setProbe t x).requester q = s.requester q := rfl

/-! ### Reading after writing -/

@[simp] theorem entry_setEntry_self (s : State) (i : EntryIx) (x : Entry) : (s.setEntry i x).entry i = x := by
  simp [State.setEntry, State.entry]

@[simp] theorem entry_setEntry_of_ne (s : State) {i j : EntryIx} (x : Entry) (h : j ≠ i) :
    (s.setEntry i x).entry j = s.entry j := by
  have : i.val ≠ j.val := fun e => h (Fin.ext e.symm)
  simp [State.setEntry, State.entry, this]

@[simp] theorem link_setLink_self (s : State) (i : Port) (x : LinkUnit) : (s.setLink i x).link i = x := by
  simp [State.setLink, State.link]

@[simp] theorem link_setLink_of_ne (s : State) {i j : Port} (x : LinkUnit) (h : j ≠ i) :
    (s.setLink i x).link j = s.link j := by
  have : i.val ≠ j.val := fun e => h (Fin.ext e.symm)
  simp [State.setLink, State.link, this]

@[simp] theorem target_setTarget_self (s : State) (i : TargetIx) (x : TargetRecord) : (s.setTarget i x).target i = x := by
  simp [State.setTarget, State.target]

@[simp] theorem target_setTarget_of_ne (s : State) {i j : TargetIx} (x : TargetRecord) (h : j ≠ i) :
    (s.setTarget i x).target j = s.target j := by
  have : i.val ≠ j.val := fun e => h (Fin.ext e.symm)
  simp [State.setTarget, State.target, this]

@[simp] theorem probe_setProbe_self (s : State) (i : TargetIx) (x : Option Probe) : (s.setProbe i x).probe i = x := by
  simp [State.setProbe, State.probe]

@[simp] theorem probe_setProbe_of_ne (s : State) {i j : TargetIx} (x : Option Probe) (h : j ≠ i) :
    (s.setProbe i x).probe j = s.probe j := by
  have : i.val ≠ j.val := fun e => h (Fin.ext e.symm)
  simp [State.setProbe, State.probe, this]

@[simp] theorem requesting_setRequesting_self (s : State) (i : Port) (x : Requesting) : (s.setRequesting i x).requesting i = x := by
  simp [State.setRequesting, State.requesting]

@[simp] theorem requesting_setRequesting_of_ne (s : State) {i j : Port} (x : Requesting) (h : j ≠ i) :
    (s.setRequesting i x).requesting j = s.requesting j := by
  have : i.val ≠ j.val := fun e => h (Fin.ext e.symm)
  simp [State.setRequesting, State.requesting, this]

@[simp] theorem lease_setEntry_self (s : State) (i : EntryIx) (e : Entry) :
    (s.setEntry i e).lease i = e.lease := by simp [State.lease]

@[simp] theorem lease_setEntry_of_ne (s : State) {i j : EntryIx} (e : Entry) (h : j ≠ i) :
    (s.setEntry i e).lease j = s.lease j := by simp [State.lease, h]

@[simp] theorem entry_setLease_self (s : State) (i : EntryIx) (l : Option Lease) :
    (s.setLease i l).entry i = { generation := (s.entry i).generation, lease := l } := by
  simp [State.setLease]

@[simp] theorem entry_setLease_of_ne (s : State) {i j : EntryIx} (l : Option Lease) (h : j ≠ i) :
    (s.setLease i l).entry j = s.entry j := by simp [State.setLease, h]

@[simp] theorem lease_setLease_self (s : State) (i : EntryIx) (l : Option Lease) :
    (s.setLease i l).lease i = l := by simp [State.setLease]

@[simp] theorem lease_setLease_of_ne (s : State) {i j : EntryIx} (l : Option Lease) (h : j ≠ i) :
    (s.setLease i l).lease j = s.lease j := by simp [State.setLease, h]

@[simp] theorem generation_setLease (s : State) (i j : EntryIx) (l : Option Lease) :
    ((s.setLease i l).entry j).generation = (s.entry j).generation := by
  by_cases h : j = i
  · subst h; simp
  · simp [h]

@[simp] theorem link_setTicket_of_ne (s : State) {p q : Port} (k : Slot) (t : Ticket) (h : q ≠ p) :
    (s.setTicket p k t).link q = s.link q := by simp [State.setTicket, h]

@[simp] theorem link_setTicket_self (s : State) (p : Port) (k : Slot) (t : Ticket) :
    (s.setTicket p k t).link p = { s.link p with tickets := (s.link p).tickets.set k t } := by
  simp [State.setTicket]

@[simp] theorem ticket_setTicket_self (s : State) (p : Port) (k : Slot) (t : Ticket) :
    (s.setTicket p k t).ticket p k = t := by simp [State.ticket]

theorem ticket_setTicket_of_ne (s : State) {p q : Port} {k m : Slot} (t : Ticket)
    (h : ¬(q = p ∧ m = k)) : (s.setTicket p k t).ticket q m = s.ticket q m := by
  by_cases hq : q = p
  · subst hq
    have hm : k.val ≠ m.val := fun e => h ⟨rfl, Fin.ext e.symm⟩
    simp [State.ticket, hm]
  · simp [State.ticket, hq]

@[simp] theorem requester_setRequester_self (s : State) (p : Port) (r : Requester) :
    (s.setRequester p r).requester p = r := by
  simp [State.setRequester, State.setRequesting, State.requester]

@[simp] theorem requester_setRequester_of_ne (s : State) {p q : Port} (r : Requester) (h : q ≠ p) :
    (s.setRequester p r).requester q = s.requester q := by
  have : p.val ≠ q.val := fun e => h (Fin.ext e.symm)
  simp [State.setRequester, State.setRequesting, State.requester, this]

/-- Every entry is in the list of entries. -/
theorem mem_allEntries (i : EntryIx) : i ∈ allEntries := by revert i; decide

/-- Every port is in the list of ports. -/
theorem mem_allPorts (p : Port) : p ∈ allPorts := by revert p; decide

/-- Every target is in the list of targets. -/
theorem mem_allTargets (t : TargetIx) : t ∈ allTargets := by revert t; decide

/-- A record of a table that a function was applied to. -/
@[simp] theorem getElem_vmap {α : Type} {n : Nat} (f : α → α) (v : Vector α n) (i : Fin n) :
    (vmap f v)[i] = f v[i] := by
  simp [vmap]

end Sys2Proof.Machine
end

