-- ==== Sys2Proof/Laws/Ops.lean ====
section
/-! SUPPORT. What each shared operation can do: the parts of the state that it may change, and the one
record that it changes. Proofs cite these and do not unfold the operations. -/

namespace Sys2Proof.Machine

/-! ### Frames -/

theorem KeepsAllBut.refl (may : List Part) (s : State) : KeepsAllBut may s s := by
  intro x _; cases x <;> rfl

theorem Part.same_trans {s t u : State} {x : Part} (h1 : x.same s t) (h2 : x.same t u) : x.same s u := by
  cases x <;> simp_all [Part.same]

theorem KeepsAllBut.trans {may : List Part} {s t u : State} (h1 : KeepsAllBut may s t)
    (h2 : KeepsAllBut may t u) : KeepsAllBut may s u :=
  fun x hx => Part.same_trans (h1 x hx) (h2 x hx)

theorem KeepsAllBut.mono {a b : List Part} {s t : State} (h : KeepsAllBut a s t) (hab : a ⊆ b) :
    KeepsAllBut b s t := fun x hx => h x fun hm => hx (hab hm)

theorem KeepsAllBut.of_same {a : List Part} {s t u : State} (h : KeepsAllBut a s t) {b : List Part}
    (k : KeepsAllBut b t u) (hab : b ⊆ a) : KeepsAllBut a s u := h.trans (k.mono hab)

theorem keeps_setEntry (s : State) (i : EntryIx) (e : Entry) :
    KeepsAllBut [.directory] s (s.setEntry i e) := by
  intro x hx; cases x <;> simp_all [Part.same]

theorem keeps_setLease (s : State) (i : EntryIx) (l : Option Lease) :
    KeepsAllBut [.directory] s (s.setLease i l) := keeps_setEntry s i _

theorem keeps_setLink (s : State) (p : Port) (u : LinkUnit) : KeepsAllBut [.links] s (s.setLink p u) := by
  intro x hx; cases x <;> simp_all [Part.same]

theorem keeps_setTicket (s : State) (p : Port) (k : Slot) (t : Ticket) :
    KeepsAllBut [.links] s (s.setTicket p k t) := keeps_setLink s p _

theorem keeps_setTarget (s : State) (t : TargetIx) (r : TargetRecord) :
    KeepsAllBut [.targets] s (s.setTarget t r) := by
  intro x hx; cases x <;> simp_all [Part.same]

theorem keeps_setProbe (s : State) (t : TargetIx) (r : Option Probe) :
    KeepsAllBut [.probes] s (s.setProbe t r) := by
  intro x hx; cases x <;> simp_all [Part.same]

theorem keeps_setRequesting (s : State) (p : Port) (r : Requesting) :
    KeepsAllBut [.arbiter] s (s.setRequesting p r) := by
  intro x hx; cases x <;> simp_all [Part.same]

theorem keeps_setRequester (s : State) (p : Port) (r : Requester) :
    KeepsAllBut [.arbiter] s (s.setRequester p r) := keeps_setRequesting s p _

theorem keeps_setTrq (s : State) (p : Port) (b : Bool) : KeepsAllBut [.arbiter] s (s.setTrq p b) :=
  keeps_setRequesting s p _

/-! ### Responses, faults and the bus answer -/

theorem respond_keeps (p : Port) (st : Status) (r : List Byte) (s : State) :
    KeepsAllBut [.links] s (respond p st r s) := by
  unfold respond; split
  · exact keeps_setLink s p _
  · exact KeepsAllBut.refl _ s

theorem respond_linksBut (p : Port) (st : Status) (r : List Byte) (s : State) :
    LinksBut p s (respond p st r s) := by
  intro q hq; unfold respond; split <;> simp [hq]

/-- The response to a command in hand. -/
theorem respond_answered {p : Port} {s : State} {tag : Byte} {r : Request} {c : Option ClosePending}
    (h : (s.link p).link = .command { tag := tag, request := r, closing := c }) (st : Status)
    (res : List Byte) : Answered p tag st res s (respond p st res s) := by
  refine ⟨?_, respond_linksBut p st res s⟩
  unfold respond
  rw [h]
  simp

theorem holdClose_keeps (p : Port) (i : EntryIx) (n : Nat) (s : State) :
    KeepsAllBut [.links] s (holdClose p i n s) := by
  unfold holdClose; split
  · exact keeps_setLink s p _
  · exact KeepsAllBut.refl _ s

theorem answerClose_keeps (p : Port) (i : EntryIx) (c : Byte) (s : State) :
    KeepsAllBut [.links] s (answerClose p i c s) := by
  unfold answerClose
  split
  · split
    · split
      · exact respond_keeps _ _ _ _
      · exact KeepsAllBut.refl _ s
    · exact KeepsAllBut.refl _ s
  · exact KeepsAllBut.refl _ s

theorem answerClose_linksBut (p : Port) (i : EntryIx) (c : Byte) (s : State) :
    LinksBut p s (answerClose p i c s) := by
  unfold answerClose
  split
  · split
    · split
      · exact respond_linksBut _ _ _ _
      · exact fun _ _ => rfl
    · exact fun _ _ => rfl
  · exact fun _ _ => rfl

theorem enterFault_keeps (p : Port) (f : AccessFault) (s : State) :
    KeepsAllBut [.links] s (enterFault p f s) := keeps_setLink s p _

/-- R128: what entering a fault does. -/
theorem enterFault_entered (p : Port) (f : AccessFault) (s : State) :
    FaultEntered p f s (enterFault p f s) :=
  ⟨by simp [enterFault], fun q hq => by simp [enterFault, hq]⟩

theorem answerBus_keeps (a : BusAnswer) (s : State) : KeepsAllBut [.answer] s (answerBus a s) := by
  intro x hx; cases x <;> simp_all [Part.same, answerBus]

theorem refuseStalled_keeps (r : FaultReason) (s : State) :
    KeepsAllBut [.links, .stalled, .answer] s (refuseStalled r s) := by
  unfold refuseStalled; split
  · exact KeepsAllBut.refl _ s
  · intro x hx; cases x <;> simp_all [Part.same, answerBus, enterFault]

theorem refuseStalledUnder_keeps (i : EntryIx) (r : FaultReason) (s : State) :
    KeepsAllBut [.links, .stalled, .answer] s (refuseStalledUnder i r s) := by
  unfold refuseStalledUnder
  repeat' split
  all_goals first
    | exact refuseStalled_keeps r s
    | exact KeepsAllBut.refl _ s

theorem refuseStalledFor_keeps (t : TargetIx) (s : State) :
    KeepsAllBut [.links, .stalled, .answer] s (refuseStalledFor t s) := by
  unfold refuseStalledFor
  repeat' split
  all_goals first
    | exact refuseStalled_keeps _ s
    | exact KeepsAllBut.refl _ s

theorem refuseAccess_keeps (p : Option Port) (f : AccessFault) (w : List Word) (s : State) :
    KeepsAllBut [.links, .answer] s (refuseAccess p f w s) := by
  unfold refuseAccess
  cases p with
  | none => exact (answerBus_keeps _ s).mono (by simp)
  | some p =>
    exact ((enterFault_keeps p f s).mono (by simp)).trans ((answerBus_keeps _ _).mono (by simp))

/-! ### Grants and scans -/

theorem grantLease_keeps (i : EntryIx) (p : Port) (c : Claim) (s : State) :
    KeepsAllBut [.directory] s (grantLease i p c s) := keeps_setEntry s i _

/-- R6, R7: what a grant makes of its entry. -/
theorem grantLease_entry (i : EntryIx) (p : Port) (c : Claim) (s : State) :
    EntryBecomes i
      { generation := (s.entry i).generation + 1
        lease := some
          { state := .held, holder := p, claim := c, balance := 0
            interval := (s.settings c.target).term, boundaryDue := false
            outstanding := 0, marks := {} } } s (grantLease i p c s) :=
  ⟨by simp [grantLease], fun j hj => by simp [grantLease, hj]⟩

theorem grantWaiter_keeps (i : EntryIx) (w : Waiter) (s : State) :
    KeepsAllBut [.directory, .links] s (grantWaiter i w s) :=
  ((grantLease_keeps i w.port w.claim s).mono (by simp)).trans ((keeps_setTicket _ _ _ _).mono (by simp))

theorem scanFrom_keeps (ws kept : List Waiter) (s : State) :
    KeepsAllBut [.directory, .links, .waitList] s (scanFrom ws kept s) := by
  induction ws generalizing kept s with
  | nil => intro x hx; cases x <;> simp_all [Part.same, scanFrom]
  | cons w rest ih =>
    unfold scanFrom; split
    · exact ((grantWaiter_keeps _ w s).mono (by simp)).trans (ih _ _)
    · exact ih _ _

theorem scan_keeps (s : State) : KeepsAllBut [.directory, .links, .waitList] s (scan s) :=
  scanFrom_keeps _ _ _

theorem scanIf_keeps (b : Bool) (s : State) :
    KeepsAllBut [.directory, .links, .waitList] s (scanIf b s) := by
  unfold scanIf; split
  · exact scan_keeps s
  · exact KeepsAllBut.refl _ s

/-- An entry found FREE by the search is FREE. -/
theorem freeEntry_free {s : State} {i : EntryIx} (h : s.freeEntry = some i) : s.lease i = none := by
  have := List.find?_some h
  simpa using this

/-- R34: a scan changes FREE entries only. -/
theorem scanFrom_entry {ws kept : List Waiter} {s : State} {i : EntryIx} {l : Lease}
    (h : s.lease i = some l) : (scanFrom ws kept s).entry i = s.entry i := by
  induction ws generalizing kept s with
  | nil => rfl
  | cons w rest ih =>
    unfold scanFrom; split
    · rename_i j hj
      have hf : s.freeEntry = some j := by
        split at hj
        · exact hj
        · cases hj
      have hne : i ≠ j := by
        intro e; subst e; rw [freeEntry_free hf] at h; cases h
      have hg : (grantWaiter j w s).entry i = s.entry i := by
        simp [grantWaiter, grantLease, hne]
      rw [ih (by rw [State.lease, hg]; exact h), hg]
    · exact ih h

/-- R34: a scan changes FREE entries only. -/
theorem scan_entry {s : State} {i : EntryIx} {l : Lease} (h : s.lease i = some l) :
    (scan s).entry i = s.entry i := scanFrom_entry h

/-- R35: a scan changes nothing in a port link unit but its tickets. -/
theorem scanFrom_link (ws kept : List Waiter) (s : State) (p : Port) :
    (scanFrom ws kept s).link p =
      { s.link p with tickets := ((scanFrom ws kept s).link p).tickets } := by
  induction ws generalizing kept s with
  | nil => rfl
  | cons w rest ih =>
    unfold scanFrom; split
    · rw [ih]
      by_cases h : p = w.port
      · subst h; simp [grantWaiter, grantLease]
      · simp [grantWaiter, grantLease, h]
    · exact ih _ _

/-- R35: a scan changes nothing in a port link unit but its tickets. -/
theorem scan_link (s : State) (p : Port) :
    (scan s).link p = { s.link p with tickets := ((scan s).link p).tickets } := scanFrom_link _ _ _ _

theorem dropWaiter_keeps (p : Port) (k : Slot) (s : State) :
    KeepsAllBut [.waitList] s (dropWaiter p k s) := by
  intro x hx; cases x <;> simp_all [Part.same, dropWaiter]

theorem foldl_keeps {α : Type} {may : List Part} {f : State → α → State}
    (hf : ∀ s a, KeepsAllBut may s (f s a)) (l : List α) (s : State) :
    KeepsAllBut may s (l.foldl f s) := by
  induction l generalizing s with
  | nil => exact KeepsAllBut.refl _ s
  | cons a l ih => exact (hf s a).trans (ih _)

theorem refuseWaiters_keeps (f : Waiter → Bool) (r : RefuseReason) (s : State) :
    KeepsAllBut [.links, .waitList] s (refuseWaiters f r s) := by
  unfold refuseWaiters
  refine KeepsAllBut.trans (t := { s with waitList := s.waitList.filter fun w => !f w }) ?_
    (foldl_keeps (fun s w => (keeps_setTicket s _ _ _).mono (by simp)) _ _)
  intro x hx; cases x <;> simp_all [Part.same]

/-! ### Revocation and drains -/

theorem revokeEntry_keeps (i : EntryIx) (r : RevokeReason) (l : Lease) (s : State) :
    KeepsAllBut [.directory, .links, .stalled, .answer] s (revokeEntry i r l s) :=
  ((refuseStalledUnder_keeps i _ s).mono (by simp)).trans ((keeps_setLease _ _ _).mono (by simp))

theorem endDrain_keeps (i : EntryIx) (l : Lease) (c : Byte) (s : State) :
    KeepsAllBut [.directory, .links] s (endDrain i l c s) := by
  have h1 := (keeps_setLease s i l.drained).mono (b := [.directory, .links]) (by simp)
  unfold endDrain; split
  · exact h1.trans ((answerClose_keeps _ _ _ _).mono (by simp))
  · exact h1

theorem finishAccess_keeps (h : Handle) (lost : Bool) (s : State) :
    KeepsAllBut [.directory, .links] s (finishAccess h lost s).1 := by
  unfold finishAccess
  split
  · exact KeepsAllBut.refl _ s
  · dsimp only
    split
    · exact endDrain_keeps _ _ _ _
    · exact (keeps_setLease _ _ _).mono (by simp)

/-! ### The engine -/

theorem startNext_keeps (s : State) : KeepsAllBut [.current] s (startNext s) := by
  unfold startNext
  repeat' split
  all_goals first
    | exact KeepsAllBut.refl _ s
    | (intro x hx; cases x <;> simp_all [Part.same])

theorem countAdmission_keeps (i : EntryIx) (s : State) :
    KeepsAllBut [.directory] s (countAdmission i s) := by
  unfold countAdmission; split
  · exact KeepsAllBut.refl _ s
  · exact keeps_setLease _ _ _

theorem admitWrite_keeps (w : PostedWrite) (s : State) :
    KeepsAllBut [.directory, .answer, .queue] s (admitWrite w s) := by
  refine ((countAdmission_keeps w.handle.index s).mono (by simp)).trans ?_
  intro x hx; cases x <;> simp_all [Part.same, admitWrite, answerBus]

theorem admitStalled_keeps (s : State) :
    KeepsAllBut [.directory, .answer, .queue, .stalled] s (admitStalled s) := by
  unfold admitStalled
  split
  · exact KeepsAllBut.refl _ s
  · rename_i w _
    split
    · refine KeepsAllBut.trans (t := { s with stalled := none }) ?_
        ((admitWrite_keeps w _).mono (by simp))
      intro x hx; cases x <;> simp_all [Part.same]
    · exact KeepsAllBut.refl _ s

theorem endStep_keeps (b : Bool) (s : State) :
    KeepsAllBut [.directory, .links, .waitList, .answer, .queue, .stalled, .current] s (endStep b s) :=
  ((scanIf_keeps b s).mono (by simp)).trans
    (((admitStalled_keeps _).mono (by simp)).trans ((startNext_keeps _).mono (by simp)))

/-! ### The arbiter -/

theorem grantBus_keeps (p : Port) (s : State) : KeepsAllBut [.arbiter] s (grantBus p s) := by
  intro x hx; cases x <;> simp_all [Part.same, grantBus]

theorem arbitrate_keeps (s : State) : KeepsAllBut [.arbiter] s (arbitrate s) := by
  unfold arbitrate
  repeat' split
  all_goals first
    | exact grantBus_keeps _ _
    | exact KeepsAllBut.refl _ s

theorem askYield_keeps (p : Port) (s : State) : KeepsAllBut [.arbiter] s (askYield p s) := by
  intro x hx; cases x <;> simp_all [Part.same, askYield]

theorem contenderTest_keeps (s : State) : KeepsAllBut [.arbiter] s (contenderTest s) := by
  unfold contenderTest
  repeat' split
  all_goals first
    | exact askYield_keeps _ _
    | exact KeepsAllBut.refl _ s

theorem discardRead_keeps (p : Port) (s : State) : KeepsAllBut [.read] s (discardRead p s) := by
  unfold discardRead
  repeat' split
  all_goals first
    | exact KeepsAllBut.refl _ s
    | (intro x hx; cases x <;> simp_all [Part.same])

theorem loseGrant_keeps (p : Port) (r : Requester) (s : State) :
    KeepsAllBut [.arbiter, .read] s (loseGrant p r s) := by
  unfold loseGrant
  refine KeepsAllBut.trans ?_ ((arbitrate_keeps _).mono (by simp))
  refine (((keeps_setRequester s p r).mono (by simp)).trans
    ((discardRead_keeps p _).mono (by simp))).trans ?_
  intro x hx; cases x <;> simp_all [Part.same]

theorem readEnded_keeps (s : State) : KeepsAllBut [.arbiter] s (readEnded s) := by
  unfold readEnded; split
  · refine KeepsAllBut.trans ?_ (arbitrate_keeps _)
    intro x hx; cases x <;> simp_all [Part.same]
  · exact KeepsAllBut.refl _ s

theorem endInHand_keeps (b : Bool) (s : State) : KeepsAllBut [.stalled, .answer] s (endInHand b s) := by
  unfold endInHand; split
  · intro x hx; cases x <;> simp_all [Part.same, answerBus]
  · exact KeepsAllBut.refl _ s

theorem takeRise_keeps (p : Port) (s : State) : KeepsAllBut [.arbiter] s (takeRise p s) := by
  unfold takeRise
  split
  · dsimp only
    split
    · exact (keeps_setRequester _ _ _).trans (arbitrate_keeps _)
    · exact (keeps_setRequester _ _ _).trans (contenderTest_keeps _)
  · exact KeepsAllBut.refl _ s

theorem takeFall_keeps (p : Port) (s : State) :
    KeepsAllBut [.arbiter, .read, .stalled, .answer] s (takeFall p s) := by
  unfold takeFall
  split
  · exact KeepsAllBut.refl _ s
  · exact (keeps_setRequester _ _ _).mono (by simp)
  · exact ((endInHand_keeps _ _).mono (by simp)).trans ((loseGrant_keeps _ _ _).mono (by simp))
  · exact ((endInHand_keeps _ _).mono (by simp)).trans ((loseGrant_keeps _ _ _).mono (by simp))
  · exact (keeps_setRequester _ _ _).mono (by simp)

theorem resetRequester_keeps (p : Port) (s : State) :
    KeepsAllBut [.arbiter, .read, .stalled, .answer] s (resetRequester p s) := by
  unfold resetRequester
  split
  · exact KeepsAllBut.refl _ s
  · exact (keeps_setRequester _ _ _).mono (by simp)
  · exact (keeps_setRequester _ _ _).mono (by simp)
  · exact ((endInHand_keeps _ _).mono (by simp)).trans ((loseGrant_keeps _ _ _).mono (by simp))
  · exact ((endInHand_keeps _ _).mono (by simp)).trans ((loseGrant_keeps _ _ _).mono (by simp))

theorem takeHoldExpiry_keeps (s : State) : KeepsAllBut [.arbiter] s (takeHoldExpiry s) := by
  unfold takeHoldExpiry
  split
  · split
    · dsimp only
      split
      · refine KeepsAllBut.trans ?_ (askYield_keeps _ _)
        intro x hx; cases x <;> simp_all [Part.same]
      · intro x hx; cases x <;> simp_all [Part.same]
    · exact KeepsAllBut.refl _ s
  · exact KeepsAllBut.refl _ s

/-! ### The loss of a target -/

theorem discardWrite_keeps (s : State) (w : PostedWrite) :
    KeepsAllBut [.directory, .links] s (discardWrite s w) := by
  have h1 := (enterFault_keeps w.port (w.fault .writeLost) s).mono (b := [.directory, .links]) (by simp)
  unfold discardWrite
  dsimp only
  split
  · exact h1
  · exact h1.trans ((keeps_setLease _ _ _).mono (by simp))

theorem discardWrites_keeps (t : TargetIx) (s : State) :
    KeepsAllBut [.directory, .links, .queue] s (discardWrites t s) := by
  unfold discardWrites
  refine KeepsAllBut.trans (t := { s with queue := s.queue.filter fun w => !(w.target == t) }) ?_
    (foldl_keeps (fun s w => (discardWrite_keeps s w).mono (by simp)) _ _)
  intro x hx; cases x <;> simp_all [Part.same]

theorem dropRead_keeps (t : TargetIx) (s : State) :
    KeepsAllBut [.links, .answer, .read, .arbiter] s (dropRead t s) := by
  unfold dropRead
  split
  · exact KeepsAllBut.refl _ s
  · rename_i x _
    split
    · have h1 : KeepsAllBut [.links, .answer, .read, .arbiter] s { s with read := none } := by
        intro x hx; cases x <;> simp_all [Part.same]
      dsimp only
      split
      · exact (h1.trans (((enterFault_keeps _ _ _).mono (by simp)).trans
          ((answerBus_keeps _ _).mono (by simp)))).trans ((readEnded_keeps _).mono (by simp))
      · exact h1.trans ((readEnded_keeps _).mono (by simp))
    · exact KeepsAllBut.refl _ s

theorem answerLostCloses_keeps (t : TargetIx) (s : State) :
    KeepsAllBut [.links] s (answerLostCloses t s) := by
  refine foldl_keeps (fun s i => ?_) _ _
  split
  · split
    · exact answerClose_keeps _ _ _ _
    · exact KeepsAllBut.refl _ s
  · exact KeepsAllBut.refl _ s

theorem loseTarget_keeps (t : TargetIx) (f : LastFault) (s : State) :
    KeepsAllBut [.directory, .links, .waitList, .arbiter, .stalled, .answer, .queue, .read, .targets] s
      (loseTarget t f s) := by
  let s0 := s.setTarget t { s.target t with state := .offline, lastFault := f }
  let s3 := refuseStalledFor t (dropRead t (discardWrites t s0))
  let s4 := answerLostCloses t s3
  let s5 : State := { s4 with entries := vmap (Entry.settleLost t) s4.entries }
  have h0 : KeepsAllBut [.targets] s s0 := keeps_setTarget s t _
  have h1 : KeepsAllBut [.directory, .links, .queue] s0 (discardWrites t s0) := discardWrites_keeps t s0
  have h2 : KeepsAllBut [.links, .answer, .read, .arbiter] _ (dropRead t (discardWrites t s0)) :=
    dropRead_keeps t _
  have h3 : KeepsAllBut [.links, .stalled, .answer] _ s3 := refuseStalledFor_keeps t _
  have h4 : KeepsAllBut [.links] s3 s4 := answerLostCloses_keeps t s3
  have h5 : KeepsAllBut [.directory] s4 s5 := by
    intro x hx; cases x <;> simp_all [Part.same, s5]
  have h6 : KeepsAllBut [.links, .waitList] s5 (loseTarget t f s) := refuseWaiters_keeps _ _ s5
  exact (h0.mono (by simp)).trans <| (h1.mono (by simp)).trans <| (h2.mono (by simp)).trans <|
    (h3.mono (by simp)).trans <| (h4.mono (by simp)).trans <| (h5.mono (by simp)).trans
      (h6.mono (by simp))

/-! ### Lease commands that are refused -/

/-- R8 to R10: a command that names a handle either acts on an entry that is not FREE or only answers. -/
theorem withHandle_keeps {p : Port} {cmd : HandleCommand} {ok : Bool} {h : RawHandle}
    {act : EntryIx → Lease → State → State} {s : State} {may : List Part} (hl : .links ∈ may)
    (hact : ∀ i l, KeepsAllBut may s (act i l s)) : KeepsAllBut may s (withHandle p cmd ok h act s) := by
  have hr : ∀ st r, KeepsAllBut may s (respond p st r s) := fun st r =>
    (respond_keeps p st r s).mono (by simpa using hl)
  unfold withHandle
  repeat' split
  all_goals first
    | exact hr _ _
    | exact hact _ _

/-! ### Bits and bytes -/

/-- R165: the bits of a byte make that byte. -/
theorem bytesOf_byteBits_nil : ∀ b : Byte, bytesOf (byteBits b) = [b] := by decide +kernel

/-- R165: the first eight bits make the first byte. -/
@[simp] theorem bytesOf_byteBits (b : Byte) (rest : List Bool) :
    bytesOf (byteBits b ++ rest) = b :: bytesOf rest := by
  have h := (List.cons.inj (bytesOf_byteBits_nil b)).1
  exact congrArg (· :: bytesOf rest) h

/-- R165: a frame is read back from its bits. -/
@[simp] theorem bytesOf_bitsOf (frame : List Byte) : bytesOf (bitsOf frame) = frame := by
  induction frame with
  | nil => rfl
  | cons b rest ih =>
    rw [bitsOf, List.flatMap_cons, bytesOf_byteBits]
    exact congrArg _ ih

@[simp] theorem bitsOf_length (frame : List Byte) : (bitsOf frame).length = 8 * frame.length := by
  induction frame with
  | nil => rfl
  | cons b rest ih => simp only [bitsOf, List.flatMap_cons, List.length_append, List.length_cons] at *; simp [byteBits]; omega

/-- No part byte is left by whole bytes. -/
@[simp] theorem partByte_bitsOf (frame : List Byte) : partByte (bitsOf frame) = false := by
  simp [partByte]

/-- R175: no opcode is 00H, so that the frame of a request is a request frame. -/
theorem frameIsRequest_encode (tag : Byte) (r : Request) : frameIsRequest (encodeRequest tag r) = true := by
  cases r <;> rfl

/-! ### The level of LDOn -/

/-- R165, R169: LDOn is high after the frame's last byte. -/
theorem ldoBit_after {chosen : Option Response} {n : Nat} (h : 8 * (chosenBytes chosen).length ≤ n) :
    ldoBit chosen n = true := by
  simp [ldoBit, h, Config.idleLevel]

/-- R183: LDOn is high while RESET is low. -/
theorem ldo_resetLow {s : State} (h : s.resetLow = true) (p : Port) (n : Nat) : s.ldo p n = true := by
  simp [State.ldo, h, Config.idleLevel]

/-- R165: LDOn is high while LSELn is high. -/
theorem ldo_idle {s : State} {p : Port} (h : (s.link p).transfer = .idle) (n : Nat) : s.ldo p n = true := by
  simp [State.ldo, h, Config.idleLevel]

/-! ### A reference period -/

/-- Log 4: a boundary that is not due is not taken. -/
theorem takeBoundary_notDue {s : State} {i : EntryIx}
    (h : ∀ l, s.lease i = some l → l.boundaryDue = false) : takeBoundary i s = s := by
  unfold takeBoundary
  split
  · rfl
  · rename_i l hl; simp [h l hl]

/-- Log 4: a wait limit that is not due is not taken. -/
theorem takeWaitExpiry_notDue {s : State} {p : Port} {k : Slot}
    (h : ∀ w, w ∈ s.waitList → w.due = false) : takeWaitExpiry p k s = s := by
  unfold takeWaitExpiry
  split
  · rfl
  · rename_i w hw
    simp [h w (List.mem_of_find?_eq_some hw)]

theorem foldl_same {α : Type} {f : State → α → State} {s : State} (l : List α) (h : ∀ a, f s a = s) :
    l.foldl f s = s := by
  induction l with
  | nil => rfl
  | cons a l ih => rw [List.foldl_cons, h]; exact ih

/-- Log 4: with nothing due no expiry is taken. -/
theorem settleExpiries_notDue {s : State} (h : NothingDue s) : settleExpiries s = s := by
  obtain ⟨hb, hw, hh, hg⟩ := h
  unfold settleExpiries
  dsimp only
  rw [foldl_same _ fun i => takeBoundary_notDue (hb i), foldl_same _ fun x => takeWaitExpiry_notDue hw]
  have e : takeHoldExpiry s = s := by
    unfold takeHoldExpiry; split <;> simp [hh]
  rw [e]
  unfold takePreemption; split <;> simp [hg]

/-! ### Steps that answer or idle -/

/-- R183: a command while RESET is low changes nothing. -/
theorem whenLive_resetLow {s : State} (h : s.resetLow = true) (f : State → State) :
    whenLive s f = .next s := by simp [whenLive, h]

/-- A command while RESET is released. -/
theorem whenLive_live {s : State} (h : s.resetLow = false) (f : State → State) :
    whenLive s f = .next (f s) := by simp [whenLive, h]

/-- The command that a block finds handed on. -/
theorem handed_inHand {s : State} {p : Port} {tag : Byte} {r : Request} (h : InHandIs s p tag r) :
    s.handed p = some r := by simp [State.handed, h]

/-- A step with a command waiting. -/
theorem step_cons {s : State} {c : Instr} {rest : List Instr} (h : s.pending = c :: rest) :
    step s = exec c { s with pending := rest } := by simp [step, h]

/-- A step with no command waiting. -/
theorem step_nil {s : State} (h : s.pending = []) : step s = .next (refPeriod s) := by simp [step, h]

end Sys2Proof.Machine
end

