-- ==== Sys2Proof/Laws/PerInstr.lean ====
section
/-! SUPPORT. What holds of each command as syntax, one lemma for each constructor: only commands that come
from a link transfer or from an access on the bus carry data that could contradict itself, so every other
term is well formed. -/

namespace Sys2Proof.Laws.WellFormedSource

/-- A term that is not well formed comes from a link transfer or from the initiator bus. -/
def Statement (i : Instr) : Prop := i.wellFormed = true ∨ i.source = .link ∨ i.source = .bus

theorem powerOn : Statement (.powerOn) := Or.inl rfl
theorem resetRelease (levels : Levels) : Statement (.resetRelease levels) := Or.inl rfl
theorem prstLow (p : Port) (selected : Bool) : Statement (.prstLow p selected) := Or.inl rfl
theorem prstRelease (p : Port) : Statement (.prstRelease p) := Or.inl rfl
theorem requestTransfer (p : Port) (first rest : List Bool) : Statement (.requestTransfer p first rest) :=
  Or.inr (Or.inl rfl)
theorem readTransfer (p : Port) (clocks beforeCut : Nat) : Statement (.readTransfer p clocks beforeCut) := Or.inr (Or.inl rfl)
theorem openLease (p : Port) : Statement (.openLease p) := Or.inl rfl
theorem renew (p : Port) : Statement (.renew p) := Or.inl rfl
theorem close (p : Port) : Statement (.close p) := Or.inl rfl
theorem park (p : Port) : Statement (.park p) := Or.inl rfl
theorem unpark (p : Port) : Statement (.unpark p) := Or.inl rfl
theorem reshape (p : Port) : Statement (.reshape p) := Or.inl rfl
theorem status (p : Port) : Statement (.status p) := Or.inl rfl
theorem ackRevoke (p : Port) : Statement (.ackRevoke p) := Or.inl rfl
theorem cancel (p : Port) : Statement (.cancel p) := Or.inl rfl
theorem ticketRead (p : Port) : Statement (.ticketRead p) := Or.inl rfl
theorem attention (p : Port) (tag : Byte) : Statement (.attention p tag) := Or.inl rfl
theorem faultRead (p : Port) (tag : Byte) : Statement (.faultRead p tag) := Or.inl rfl
theorem configureTarget : Statement (.configureTarget) := Or.inl rfl
theorem releaseTarget : Statement (.releaseTarget) := Or.inl rfl
theorem targetStatus : Statement (.targetStatus) := Or.inl rfl
theorem setQuota : Statement (.setQuota) := Or.inl rfl
theorem setPriority : Statement (.setPriority) := Or.inl rfl
theorem setHold : Statement (.setHold) := Or.inl rfl
theorem setTimebase : Statement (.setTimebase) := Or.inl rfl
theorem revoke : Statement (.revoke) := Or.inl rfl
theorem purgeHandle : Statement (.purgeHandle) := Or.inl rfl
theorem purgePort : Statement (.purgePort) := Or.inl rfl
theorem directoryClear : Statement (.directoryClear) := Or.inl rfl
theorem portReset : Statement (.portReset) := Or.inl rfl
theorem directoryRead : Statement (.directoryRead) := Or.inl rfl
theorem tick : Statement (.tick) := Or.inl rfl
theorem termBoundary (i : EntryIx) : Statement (.termBoundary i) := Or.inl rfl
theorem waitExpired (p : Port) (slot : Slot) : Statement (.waitExpired p slot) := Or.inl rfl
theorem holdExpiry : Statement (.holdExpiry) := Or.inl rfl
theorem preemption : Statement (.preemption) := Or.inl rfl
theorem trqRise (p : Port) : Statement (.trqRise p) := Or.inl rfl
theorem trqFall (p : Port) : Statement (.trqFall p) := Or.inl rfl
theorem access (a : WordAddr) (x : Access) : Statement (.access a x) := Or.inr (Or.inr rfl)
theorem brokenWrite (a : WordAddr) (burst : Burst) (presented : Nat) : Statement (.brokenWrite a burst presented) := Or.inr (Or.inr rfl)
theorem stalledWriteAdmission : Statement (.stalledWriteAdmission) := Or.inl rfl
theorem accessStart : Statement (.accessStart) := Or.inl rfl
theorem writeCompletion : Statement (.writeCompletion) := Or.inl rfl
theorem readCompletion (data : List Word) : Statement (.readCompletion data) := Or.inl rfl
theorem probeCompletion (w : Word) : Statement (.probeCompletion w) := Or.inl rfl
theorem writeTimeout (taken : Nat) : Statement (.writeTimeout taken) := Or.inl rfl
theorem readTimeout (taken : Nat) : Statement (.readTimeout taken) := Or.inl rfl
theorem probeTimeout : Statement (.probeTimeout) := Or.inl rfl
theorem closingDrainEnd (i : EntryIx) : Statement (.closingDrainEnd i) := Or.inl rfl
theorem revokingDrainEnd (i : EntryIx) : Statement (.revokingDrainEnd i) := Or.inl rfl
theorem firstByteClocked (p : Port) (b : Byte) : Statement (.firstByteClocked p b) := Or.inl rfl

end Sys2Proof.Laws.WellFormedSource
end

