-- ==== Sys2Proof/Tests/Slice0.lean ====
section
/-! SUPPORT. Tests of single steps on small states, most of them taken from the spec's worked sequences, and
for every statement with hypotheses a state and operands that meet them. -/

namespace Sys2Proof.Tests

open Sys2Proof Sys2Proof.Machine

/-! ### Small states -/

/-- The settings of T0: 000H+400H, 2 wait states, timeout 0040H, term 00FAH. -/
def settings0 : Settings :=
  { span := { base := 0x000, count := 0x400 }, waitStates := 2, readyTimeout := 0x40, term := 0xFA
    probe := none }

/-- A target record in a state, with these settings. -/
def record (st : TargetState) (x : Settings) : TargetRecord :=
  { state := st, settings := some x, probeResult := none, timeouts := 0, lastFault := .none }

/-- T0 is READY; everything else is as after reset. -/
def base : State := State.reset.setTarget 0 (record .ready settings0)

/-- A claim on T0. -/
def claim0 (b n : Nat) (c : LeaseClass) : Claim :=
  { target := 0, window := { base := b, count := n }, cls := c }

/-- A lease on T0 over 100H+20H, EXCLUSIVE. -/
def lease (st : LeaseState) (p : Port) : Lease :=
  { state := st, holder := p, claim := claim0 0x100 0x20 .exclusive, balance := 0, interval := 0xFA
    boundaryDue := false, outstanding := 0, marks := {} }

/-- Entry `i` holds a lease at generation 01H. -/
def withLease (i : EntryIx) (l : Lease) (s : State) : State := s.setEntry i { generation := 0x01, lease := some l }

/-- A command with tag 21H is in hand at a port. -/
def hand (p : Port) (r : Request) (s : State) : State :=
  s.setLink p { s.link p with link := .command { tag := 0x21, request := r, closing := none } }

/-- The handle of entry `i` at generation 01H, as a frame carries it. -/
def raw (i : Byte) : RawHandle := { index := i, generation := 0x01 }

/-- The same handle in the engine. -/
def tag1 (i : EntryIx) : Handle := { index := i, generation := 0x01 }

/-- The bus is owned by a port. -/
def owned (p : Port) (r : Requester) (s : State) : State :=
  let s1 := s.setRequesting p { s.requesting p with req := r, trq := true }
  { s1 with arb := { s1.arb with bus := .owned p, recent := some p, inForce := some { hold := 0, grace := 8 } } }

/-- A one-word write of P1 to 100000H on T0 under entry 0. -/
def write1 : PostedWrite :=
  { handle := tag1 0, port := 1, target := 0, address := 0x100000, burst := .w1, data := [0x5] }

/-- A one-word read of P1 of 100000H on T0 under entry 0. -/
def read1 : PendingRead :=
  { handle := tag1 0, port := 1, target := 0, address := 0x100000, burst := .w1, deliver := true, buffer := [] }

/-- A current access in its setup. -/
def current (h : Holding) : Current :=
  { holding := h, taken := 0, phase := .setup, waitStates := 2, readyTimeout := 0x40, base := 0x000 }

/-- P1 holds entry 0 with one write in the engine, which is current. -/
def writing : State :=
  { withLease 0 { lease .held 1 with outstanding := 1 } (owned 1 .owner base) with
    queue := [write1], current := some (current .write) }

/-- P1 holds entry 0 with its read in the engine, which is current. -/
def reading : State :=
  { withLease 0 { lease .held 1 with outstanding := 1 } (owned 1 .owner base) with
    read := some read1, current := some (current .read) }

/-- T0 is PROBING and its probe is current. -/
def probing : State :=
  let s := State.reset.setTarget 0
    (record .probing { settings0 with probe := some { address := 0xFFC, signature := 0xA5C30F1E } })
  { s.setProbe 0 (some { address := 0xFFC, captured := none }) with current := some (current (.probe 0)) }

/-- A state after a step, or the state before where there is none. -/
def after (s : State) (o : Outcome) : State :=
  match o with
  | .next t => t
  | _ => s

/-- What a port link unit answered. -/
def response (p : Port) (s : State) : Option (Byte × Status × List Byte) :=
  match (s.link p).link with
  | .responseReady r => some (r.tag, r.status, r.results)
  | _ => none

/-- The response of a step. -/
def answers (p : Port) (c : Instr) (s : State) : Option (Byte × Status × List Byte) := response p (after s (exec c s))

/-! ### The four ill-formed terms are refused -/

theorem test_frame_of_first_byte_zero_is_no_request :
    exec (.requestTransfer 1 (bitsOf [0x00]) (bitsOf [0x01])) base = .refused .illFormed := rfl

theorem test_read_transfer_cut_after_its_end :
    exec (.readTransfer 1 2 3) base = .refused .illFormed := rfl

theorem test_write_without_its_words :
    exec (.access 0x40000 (.write .w2 [0x1])) base = .refused .illFormed := rfl

theorem test_broken_write_with_all_its_words :
    exec (.brokenWrite 0x40000 .w2 2) base = .refused .illFormed := rfl

/-! ### Worked sequences of the spec, one step each -/

/-- 11, *Bringing the Part into Service*, step 1: SET_TIMEBASE 5. -/
theorem test_set_timebase :
    answers 0 .setTimebase (hand 0 (.setTimebase 0x05) base) = some (0x21, .ok, [0x04, 0x05]) := by decide

/-- 11, step 3: CONFIGURE_TARGET T1 over 3F0H+400H is refused with OVERLAP 00H. -/
theorem test_configure_overlap :
    answers 0 .configureTarget (hand 0 (.configureTarget
      { target := 0x01, base := 0x3F0, count := 0x400, waitStates := 0x00, readyTimeout := 0x20, term := 0xFA
        probeEnable := 0x00, probeAddress := 0, signature := 0 }) base) =
      some (0x21, .overlap, [0x00]) := by decide

/-- 11, step 4: CONFIGURE_TARGET T1 over 400H+400H makes it READY. -/
theorem test_configure_ready :
    answers 0 .configureTarget (hand 0 (.configureTarget
      { target := 0x01, base := 0x400, count := 0x400, waitStates := 0x00, readyTimeout := 0x20, term := 0xFA
        probeEnable := 0x00, probeAddress := 0, signature := 0 }) base) =
      some (0x21, .ok, [0x01, 0x02, 0x00]) := by decide

/-- 11, *Two Ports Contending*, event 1: OPEN 100H+20H EXCLUSIVE is granted in entry 00. -/
theorem test_open_granted :
    answers 1 (.openLease 1) (hand 1 (.openLease 0x100 0x20 0x02 0x00 0) base) =
      some (0x21, .ok, [0x00, 0x01]) := by decide

/-- 11, event 2: a conflicting OPEN with WAIT set is queued in slot 0. -/
theorem test_open_queued :
    answers 2 (.openLease 2) (hand 2 (.openLease 0x110 0x08 0x01 0x01 50) (withLease 0 (lease .held 1) base)) =
      some (0x21, .queued, [0x00, 0x00]) := by decide

/-- The lease and the wait list of event 7: entry 00 CLOSING with one write out, P2/1 waiting. -/
def event7 : State :=
  let s := { writing with
    waitList := [{ port := 2, slot := 1, claim := claim0 0x118 0x10 .exclusive, remaining := none, due := false }] }
  let s1 := (s.setTicket 2 1 .waiting).setLease 0 (some { lease .closing 1 with outstanding := 1 })
  s1.setLink 1 { s1.link 1 with
    link := .command { tag := 0x31, request := .close (raw 0x00), closing := some { index := 0, found := 1 } } }

/-- 11, event 7: the write completes, the CLOSE is answered OK 01H 00H. -/
theorem test_completion_answers_the_close :
    answers 1 .writeCompletion event7 = some (0x31, .ok, [0x01, 0x00]) := by decide

/-- 11, event 7: and the scan grants P2/1 in entry 00 at generation 02H. -/
theorem test_completion_grants_the_waiter :
    (after event7 (exec .writeCompletion event7)).ticket 2 1 =
      .granted { index := 0, generation := 0x02 } := by decide

/-- 11, event 8: the CANCEL of a GRANTED ticket is TOO_LATE with its record. -/
theorem test_cancel_granted :
    answers 2 (.cancel 2)
        (hand 2 (.cancel 0x01) (base.setTicket 2 1 (.granted { index := 0, generation := 0x02 }))) =
      some (0x21, .tooLate, [0x01, 0x02, 0x00, 0x02]) := by decide

/-- 11, event 9: TICKET_READ of a REFUSED ticket. -/
theorem test_ticket_read_refused :
    answers 2 (.ticketRead 2) (hand 2 (.ticketRead 0x00) (base.setTicket 2 0 (.refused .waitExpired))) =
      some (0x21, .ok, [0x00, 0x03, 0x01, 0x00]) := by decide

/-- 11, *A Renewal Schedule*: RENEW 8 at +1 is refused whole. -/
theorem test_renew_credit_full :
    answers 1 (.renew 1)
        (hand 1 (.renew (raw 0x00) 0x08) (withLease 0 { lease .held 1 with balance := 1 } base)) =
      some (0x21, .creditFull, [0x01, 0x00, 0xFA]) := by decide

/-- 11: RENEW 7 at +1 brings the balance to +8. -/
theorem test_renew_ok :
    answers 1 (.renew 1)
        (hand 1 (.renew (raw 0x00) 0x07) (withLease 0 { lease .held 1 with balance := 1 } base)) =
      some (0x21, .ok, [0x08, 0x00, 0xFA]) := by decide

/-- 11: STATUS at balance -6 with EXPIRY_NEAR reports FAH and the mark. -/
theorem test_status_expiry_near :
    answers 1 (.status 1)
        (hand 1 (.status (raw 0x00))
          (withLease 0 { lease .held 1 with balance := -6, marks := { expiryNear := true } } base)) =
      some (0x21, .ok, [0x00, 0x01, 0x01, 0x01, 0x00, 0x01, 0x00, 0x00, 0x20, 0x02, 0xFA, 0x00, 0xFA, 0x00,
        0x01, 0x00]) := by decide

/-- 11, *Recovery*: ACK_REVOKE of a TARGET_LOST tombstone that lost a write. -/
theorem test_ack_revoke :
    answers 1 (.ackRevoke 1)
        (hand 1 (.ackRevoke (raw 0x10)) (withLease 0x10 { lease (.revoked .targetLost) 1 with
          marks := { revoked := true, writeLost := true } } base)) =
      some (0x21, .ok, [0x03, 0x06]) := by decide

/-- 11, *Clearing Tombstones*: PURGE of port 4 with one tombstone. -/
theorem test_purge_port :
    answers 0 .purgePort (hand 0 (.purgePort 0x04) (withLease 7 (lease (.revoked .expired) 4) base)) =
      some (0x21, .ok, [0x04, 0x01]) := by decide

/-- 11: SET_QUOTA below the charge is IN_USE. -/
theorem test_set_quota_in_use :
    answers 0 .setQuota (hand 0 (.setQuota 0x01 0x01) (withLease 8 (lease .parked 1) (withLease 7 (lease .held 1) base))) =
      some (0x21, .inUse, [0x01, 0x08, 0x02]) := by decide

/-- 10, event 1: the frame of an OPEN of P3 becomes the command in hand. -/
theorem test_request_frame :
    (after base (exec (.requestTransfer 3 (bitsOf [0x01])
        (bitsOf [0x21, 0x08, 0x02, 0x30, 0x00, 0x08, 0x02, 0x01, 0x00, 0x00])) base)).handed 3 =
      some (.openLease 0x230 0x008 0x02 0x01 0) := by decide +kernel

/-- R165: bits pass most significant first, and the bits after the last whole byte are dropped. -/
theorem test_bits_make_bytes :
    bytesOf [false, false, false, false, true, false, true, true, true, true, false] = [0x0B] := by decide

/-- R167: a frame with a part byte at its end is BAD_FRAME. -/
theorem test_part_byte :
    answers 3 (.requestTransfer 3 (bitsOf [0x0B]) (bitsOf [0x22, 0x00] ++ [true])) base =
      some (0x22, .badFrame, []) := by
  decide +kernel

/-- 10, event 5: ATTENTION with slot 0 GRANTED and LINK_OVERRUN set. -/
theorem test_attention :
    answers 3 (.attention 3 0x22)
        (let s := base.setTicket 3 0 (.granted { index := 2, generation := 0x02 })
         s.setLink 3 { s.link 3 with overrun := true }) =
      some (0x22, .ok, [0x02, 0x00, 0x00, 0x00, 0x01, 0x00, 0xFF, 0x00]) := by decide

/-- 07: the words of a burst of 4 at 200418H come in the order 200418H, 20041CH, 200410H, 200414H. -/
theorem test_burst_order :
    [0, 1, 2, 3].map (burstWord .w4 0x200418) = [0x200418, 0x20041C, 0x200410, 0x200414] := by decide

/-- 01: the example of R5, whose last page conflicts with a neighbour and whose next page does not. -/
theorem test_conflict :
    (claim0 0x200 0x40 .exclusive).conflicts (claim0 0x23F 0x01 .sharedRead) = true ∧
      (claim0 0x200 0x40 .exclusive).conflicts (claim0 0x240 0x10 .exclusive) = false := by decide

/-! ### More small states -/

/-- A command with tag 21H in hand at P0. -/
abbrev hand0 (r : Request) (s : State) : State := hand 0 r s

/-- Entry 0 of P1 in a state, on the READY T0. -/
def with0 (st : LeaseState) : State := withLease 0 (lease st 1) base

/-- Entry 0 of P1 in a state, with one access outstanding. -/
def with0out (st : LeaseState) : State := withLease 0 { lease st 1 with outstanding := 1 } base

/-- Every entry is HELD by P1. -/
def full : State :=
  { base with entries := Vector.replicate 32 { generation := 0x01, lease := some (lease .held 1) } }

/-- P2 waits in slot 0 for 110H+08H SHARED_READ, its limit due. -/
def waiter2 : Waiter :=
  { port := 2, slot := 0, claim := claim0 0x110 0x08 .sharedRead, remaining := some 1, due := true }

/-- One request waits. -/
def waiting : State := { base.setTicket 2 0 .waiting with waitList := [waiter2] }

/-- Eight requests wait, none of them of P1. -/
def listFull : State := { with0 .held with waitList := List.replicate 8 waiter2 }

/-- The owner P1 has a stalled write under its HELD entry 0. -/
def stalledWrite : State := { with0 .held with arb := (owned 1 .owner base).arb, stalled := some write1 }

/-- What holds of every lease, where it holds of every entry. -/
theorem every_lease {s : State} (f : Lease → Bool) (h : ∀ i, (s.lease i).all f = true) {i : EntryIx}
    {l : Lease} (hl : s.lease i = some l) : f l = true := by
  have := h i
  rw [hl] at this
  exact this

/-- What holds of every span, where it holds of every target. -/
theorem every_span {s : State} (f : Window → Bool) (h : ∀ t, (s.span t).all f = true) {t : TargetIx}
    {w : Window} (hw : s.span t = some w) : f w = true := by
  have := h t
  rw [hw] at this
  exact this

/-! ### The statements' hypotheses can be met -/

theorem witness_StepRunsFrontCommand :
    { base with pending := [.tick] }.pending = Instr.tick :: [] := rfl

/-- P2 waits in slot 0 with one tick left, and the divider is one period short of the tick. -/
def lastTick : State :=
  { base.setTicket 2 0 .waiting with
    waitList := [{ port := 2, slot := 0, claim := claim0 0x110 0x08 .sharedRead, remaining := some 1
                   due := false }]
    clock := { base.clock with count := 1023 } }

theorem witness_EmptyQueuePassesAPeriod :
    State.inReset.pending = [] ∧ State.inReset.resetLow = true ∧
    base.pending = [] ∧ base.resetLow = false ∧ base.current = none ∧
    base.clock.count + 1 < 2 ^ (6 + base.clock.k) ∧
    lastTick.pending = [] ∧ lastTick.resetLow = false ∧
    2 ^ (6 + lastTick.clock.k) ≤ lastTick.clock.count + 1 ∧
    (∃ w, w ∈ lastTick.waitList ∧ w.remaining = some 1 ∧ lastTick.waitersOf w.port w.slot = 1) ∧
    writing.pending = [] ∧ writing.resetLow = false ∧
    writing.clock.count + 1 < 2 ^ (6 + writing.clock.k) := by
  refine ⟨rfl, rfl, rfl, rfl, rfl, by decide, rfl, rfl, by decide,
    ⟨_, List.mem_singleton.2 rfl, rfl, by decide⟩, rfl, rfl, by decide⟩

theorem witness_EmptyQueuePassesAPeriod_nothing_due : NothingDue base :=
  ⟨fun i l h => Bool.noConfusion (every_lease (fun _ => false) (by decide) h), by decide, rfl, rfl⟩

/-- R37: with no command waiting, a wait limit with one tick left refuses its ticket at that tick. -/
theorem test_wait_limit_expires_at_its_tick :
    (after lastTick (step lastTick)).ticket 2 0 = .refused .waitExpired := by decide +kernel

theorem witness_OnlyIllFormedTermsAreRefused :
    Instr.wellFormed .tick = true ∧ Instr.wellFormed (.brokenWrite 0 .w1 1) = false := by decide

theorem witness_ResetTakesNothingButItsRelease :
    State.inReset.resetLow = true ∧ Instr.wellFormed .tick = true ∧ Instr.tick ≠ .powerOn ∧
    (∀ v, Instr.tick ≠ .resetRelease v) ∧ base.resetLow = false :=
  ⟨rfl, rfl, by decide, fun _ h => Instr.noConfusion h, rfl⟩

/-- The state of the laws' witnesses: event 7 of *Two Ports Contending*, its completion waiting. -/
def lawful : State := { event7 with pending := [.writeCompletion] }

/-- The only request that waits in it. -/
theorem lawful_waiter {w : Waiter} (h : w ∈ lawful.waitList) :
    w = { port := 2, slot := 1, claim := claim0 0x118 0x10 .exclusive, remaining := none, due := false } :=
  List.mem_singleton.1 h

theorem no_some {α : Type} {x : α} {P : Prop} (h : (none : Option α) = some x) : P := nomatch h

theorem lawful_steps : ∃ t, step lawful = .next t := ⟨_, rfl⟩

/-- The only lease of the lawful state. -/
theorem lawful_lease {i : EntryIx} {l : Lease} (h : lawful.lease i = some l) :
    i = 0 ∧ l = { lease .closing 1 with outstanding := 1 } := by
  have at0 : ∀ i, i ≠ 0 → lawful.lease i = none := by decide
  have e : i = 0 := by
    by_contra hi
    rw [at0 i hi] at h
    exact no_some h
  subst e
  exact ⟨rfl, (Option.some.inj h).symm⟩

/-- The settings with a probe of the span's last word. -/
def probed0 : Settings := { settings0 with probe := some { address := 0x3FFFFC, signature := 0xA5C30F1E } }

theorem witness_RangesAreKept_probe : probed0.InRange := by
  refine ⟨by unfold Window.InRange; decide, by decide, by decide, by decide, by decide, by decide, by decide,
    fun y h => ?_⟩
  rw [← Option.some.inj h]
  decide

theorem witness_RangesAreKept : Capacity lawful ∧ FieldsInRange lawful := by
  refine ⟨by unfold Capacity; decide, fun i l h => ?_, fun w h => ?_, fun t x h => ?_, by decide,
    by decide, by decide, fun k h => ?_⟩
  · rw [(lawful_lease h).2]
    unfold Lease.InRange Window.InRange
    decide
  · rw [lawful_waiter h]
    exact ⟨by unfold Window.InRange; decide, fun r hr => no_some hr⟩
  · have all : ∀ t, ((lawful.target t).settings).all (· == settings0) = true := by decide
    have e := all t
    rw [h] at e
    rw [eq_of_beq e]
    exact ⟨by unfold Window.InRange; decide, by decide, by decide, by decide, by decide, by decide, by decide,
      fun y h => no_some h⟩
  · exact no_some h

theorem witness_NoConflictsIsKept : NoConflicts lawful := by
  intro i j li lj hij hi hj
  exact absurd ((lawful_lease hi).1.trans (lawful_lease hj).1.symm) hij

theorem witness_BusLawIsKept : BusLaw lawful := by
  refine ⟨by decide, by decide, ⟨fun h => ?_, fun ⟨x, hx, _⟩ => ?_⟩, fun x hx => ?_, fun w hw => ?_⟩
  · exact absurd h (by decide)
  · exact no_some hx
  · exact no_some hx
  · exact no_some hw

theorem witness_TicketAndChargeLawsAreKept : TicketLaw lawful ∧ ChargeLaw lawful := by
  unfold TicketLaw ChargeLaw; decide

theorem witness_TargetLawIsKept : TargetLaw lawful := by
  refine ⟨fun i l h _ => ?_, fun w h => ?_⟩
  · rw [(lawful_lease h).2]
    exact ⟨rfl, _, rfl, rfl⟩
  · rw [lawful_waiter h]
    exact ⟨_, rfl, rfl⟩

theorem witness_MapAndProbeLawsAreKept : MapLaw lawful ∧ ProbeLaw lawful := by
  refine ⟨⟨by decide, fun t u a b htu ha hb => ?_⟩, by unfold ProbeLaw; decide⟩
  have only : ∀ t, (lawful.span t).isSome = true → t = 0 := by decide
  exact absurd ((only t (by rw [ha]; rfl)).trans (only u (by rw [hb]; rfl)).symm) htu

theorem witness_EngineAndCloseLawsAreKept : EngineLaw lawful ∧ CloseLaw lawful := by
  refine ⟨⟨fun h => ?_, fun c hc => ?_⟩, fun p tag r c h => ?_⟩
  · exact no_some h.symm
  · rw [← Option.some.inj hc]
    exact List.cons_ne_nil _ _
  · have only : ∀ p, p ≠ 1 → (lawful.link p).link = .idle := by decide
    have e : p = 1 := by
      by_contra hp
      rw [only p hp] at h
      exact nomatch h
    subst e
    have e2 : c = { index := 0, found := 1 } := by
      have := LinkState.command.inj h
      exact (Option.some.inj (InHand.mk.inj this).2.2).symm
    subst e2
    exact ⟨_, rfl, rfl, rfl⟩

theorem witness_OutstandingLawIsKept :
    BusLaw lawful ∧ TargetLaw lawful ∧ MapLaw lawful ∧ ProbeLaw lawful ∧ OutstandingLaw lawful := by
  refine ⟨witness_BusLawIsKept, witness_TargetLawIsKept, witness_MapAndProbeLawsAreKept.1,
    witness_MapAndProbeLawsAreKept.2, by decide, fun i l h => ?_, fun w h => ?_, fun x hx => ?_, fun w hw => ?_⟩
  · obtain ⟨hi, hl⟩ := lawful_lease h
    subst hi hl
    decide
  · rw [List.mem_singleton.1 h]
    exact ⟨_, rfl, rfl⟩
  · exact no_some hx
  · exact no_some hw

theorem witness_GenerationRisesAtGrantOnly :
    (∃ t, step lawful = .next t) ∧ ∀ rest, lawful.pending ≠ .powerOn :: rest :=
  ⟨lawful_steps, fun _ h => Instr.noConfusion (List.cons.inj h).1⟩

theorem witness_FramesReadBackTheirRequest :
    SentBy 1 (.renew (raw 0x00) 0x01) ∧ SentBy 0 .directoryClear ∧
    ([] : List Bool).length < 8 ∧ (List.replicate 7 true).length < 8 := by
  unfold SentBy; decide

theorem witness_FrameTestsRefuseInOrder :
    LinkTakes base 1 0x01 ∧ LinkTakes base 0 0x28 ∧
    LinkTakes (base.setLink 1 { base.link 1 with transfer := .request 0x0C }) 1 0x0C ∧
    (0x01 : Byte) ≠ 0x00 ∧ (bytesOf (bitsOf [0x01, 0x21])).head? = some 0x01 ∧
    bytesOf (bitsOf [0x01, 0x21]) = [0x01, 0x21] ∧
    ([0x01, 0x21] : List Byte).length < 3 ∧
    bytesOf (bitsOf [0x0C, 0x21, 0x00] ++ [true]) = [0x0C, 0x21, 0x00] ∧
    (bitsOf [0x0C, 0x21, 0x00] ++ [true]).length % 8 ≠ 0 ∧
    (bitsOf [0x0C, 0x21, 0x00]).length % 8 = 0 ∧
    ([0x00] : List Byte).length ≠ (0x02 : Byte).toNat ∧
    listedLengths 0x0D = [] ∧ listedLengths 0x1F = [] ∧ listedLengths 0x2C = [] ∧
    listedLengths 0x20 ≠ [] ∧ 0x20 ≤ (0x20 : Byte).toNat ∧ (1 : Port) ≠ 0 ∧
    listedLengths 0x0C ≠ [] ∧ (0x0C : Byte).toNat < 0x20 ∧ 1 ∉ listedLengths 0x0C ∧
    listedLengths 0x28 ≠ [] ∧ 3 ∉ listedLengths 0x28 := by decide +kernel

theorem witness_RequestTransferIsTakenOrDiscarded :
    let r : Request := .close (raw 0x00)
    let other := bitsOf [0xFF] ++ [false, true]
    let begun := base.setLink 1 { base.link 1 with transfer := .request 0xFF }
    let low := base.setLink 1 { base.link 1 with prstLow := true }
    SentBy 1 r ∧ base.resetLow = false ∧ (base.link 1).transfer = .idle ∧ (base.link 1).prstLow = false ∧
    (base.link 1).link = .idle ∧ r ≠ .attention ∧ r ≠ .faultRead ∧
    ((hand 1 r base).link 1).link ≠ .idle ∧ ((hand 1 r base).link 1).transfer = .idle ∧
    bytesOf other ≠ [] ∧ (bytesOf other).head? ≠ some 0x00 ∧ (begun.link 1).transfer = .request 0xFF ∧
    (bytesOf other).head? = some 0xFF ∧
    ((base.setLink 1 { base.link 1 with transfer := .request 0x03 }).link 1).transfer =
      .request r.opcode.byte ∧
    (encodeRequest 0x21 r).head? = some 0x03 ∧
    (low.link 1).prstLow = true ∧ (low.link 1).transfer = .idle ∧
    ((base.setLink 1 { base.link 1 with transfer := .ignored }).link 1).transfer = .ignored ∧
    (List.replicate 7 true).length < 8 := by
  refine ⟨by unfold SentBy; decide, ?_⟩; decide

/-- Entry 31 is the only marked entry of P1. -/
def marked31 : State :=
  withLease 31 { lease (.revoked .expired) 1 with marks := { revoked := true } } base

theorem witness_AttentionAndFaultReadAnswer :
    LinkTakes base 1 0x0B ∧ LinkTakes (base.setLink 1 { base.link 1 with transfer := .request 0x0B }) 1 0x0B ∧
    LinkTakes base 1 0x0C ∧ LinkTakes (base.setLink 1 { base.link 1 with transfer := .request 0x0C }) 1 0x0C ∧
    (∀ i, base.marked 1 i = false) ∧ (base.link 1).fault.fault = none ∧
    marked31.marked 1 31 = true ∧ (∀ j, j < 31 → marked31.marked 1 j = false) ∧
    LinkTakes (enterFault 1 (write1.fault .writeLost) base) 1 0x0C ∧
    ((enterFault 1 (write1.fault .writeLost) base).link 1).fault.fault = some (write1.fault .writeLost) := by
  decide

/-- R129: the ten bytes of a WRITE_LOST fault at 100000H. -/
theorem test_fault_read :
    answers 1 (.faultRead 1 0x22) (enterFault 1 (write1.fault .writeLost) base) =
      some (0x22, .ok, [0x01, 0x0A, 0x00, 0x10, 0x00, 0x00, 0x01, 0x00, 0x01, 0x00]) := by decide +kernel

/-- The response of the read transfers' witnesses: a frame of five bytes. -/
def response5 : Response := { tag := 0x21, status := .queued, results := [0x00, 0x00] }

/-- The link of P1 with a response and a transfer. -/
def linked (l : LinkState) (x : Transfer) : State := base.setLink 1 { base.link 1 with link := l, transfer := x }

theorem witness_ReadTransferDrivesAndConsumes :
    (linked (.responseReady response5) .idle).resetLow = false ∧
    ((linked (.responseReady response5) .idle).link 1).link = .responseReady response5 ∧
    ((linked (.responseReady response5) .idle).link 1).transfer = .idle ∧
    ((linked (.responseReady response5) .idle).link 1).prstLow = false ∧
    (0x01 : Byte) ≠ 0x00 ∧
    ((linked (.responseReady response5) (.read (some response5) false)).link 1).transfer =
      .read (some response5) false ∧
    8 * (3 + response5.results.length) ≤ 40 ∧ ¬ 8 * (3 + response5.results.length) ≤ 39 ∧
    ((linked .idle (.read none false)).link 1).transfer = .read none false ∧
    ((linked .idle (.read (some response5) true)).link 1).transfer = .read (some response5) true ∧
    ((linked .idle (.read none true)).link 1).transfer = .read none true ∧
    (0 : Nat) ≤ 40 ∧ (40 : Nat) ≤ 40 ∧ ((linked .idle .ignored).link 1).transfer = .ignored ∧
    ((linked .idle .ignored).link 1).transfer ≠ .idle ∧
    ((base.setLink 1 { base.link 1 with prstLow := true }).link 1).prstLow = true ∧
    ((base.setLink 1 { base.link 1 with prstLow := true }).link 1).transfer = .idle := by decide

theorem witness_ReadTransferDrivesAndConsumes_empty :
    (∀ r, ((linked .idle .idle).link 1).link ≠ .responseReady r) ∧
    (∀ r, ((linked .idle .idle).link 1).transfer ≠ .read r false) ∧
    ∀ r, ((linked .idle (.read (some response5) true)).link 1).transfer ≠ .read r false :=
  ⟨fun _ h => LinkState.noConfusion h, fun _ h => Transfer.noConfusion h,
    fun _ h => Bool.noConfusion (Transfer.read.inj h).2⟩

/-- R169: LDOn carries the frame, tag first, and is high after its last byte; and it is high when no transfer
is under way. -/
theorem test_ldo :
    (List.range 8).map ((linked (.responseReady response5) (.read (some response5) false)).ldo 1) =
      [false, false, true, false, false, false, false, true] ∧
    (linked (.responseReady response5) (.read (some response5) false)).ldo 1 40 = true ∧
    (linked (.responseReady response5) .idle).ldo 1 0 = true := by decide

theorem witness_InvalidHandleIsRefused :
    let r : Request := .renew (raw 0x20) 0x08
    let r0 : Request := .renew (raw 0x1F) 0x00
    let r9 : Request := .renew (raw 0x1F) 0x09
    let q : Request := .revoke (raw 0x1F)
    InHandIs (hand 1 r base) 1 0x21 r ∧ SentBy 1 r ∧ (hand 1 r base).resetLow = false ∧
    handleFormOf r = some (.renew, raw 0x20, true) ∧ rowOf 1 r = some (.renew 1) ∧
    0x1F < (raw 0x20).index.toNat ∧
    handleFormOf r0 = some (.renew, raw 0x1F, false) ∧ handleFormOf r9 = some (.renew, raw 0x1F, false) ∧
    InHandIs (hand 0 q base) 0 0x21 q ∧ SentBy 0 q ∧ handleFormOf q = some (.revoke, raw 0x1F, true) ∧
    rowOf 0 q = some .revoke ∧ (raw 0x1F).index.toNat = (31 : EntryIx).val ∧ base.lease 31 = none ∧
    (base.entry 31).generation ≠ (raw 0x1F).generation := by
  unfold InHandIs SentBy; decide

theorem witness_HolderAndStateChecksRefuse :
    let r : Request := .park (raw 0x00)
    let q : Request := .revoke (raw 0x00)
    let held := hand 2 r (with0 .held)
    let parked := hand 1 r (with0 .parked)
    let gone := hand 0 q (with0 (.revoked .expired))
    held.resetLow = false ∧ InHandIs held 2 0x21 r ∧ SentBy 2 r ∧
    handleFormOf r = some (.park, raw 0x00, true) ∧ rowOf 2 r = some (.park 2) ∧
    Names held (raw 0x00) 0 (lease .held 1) ∧ HandleCommand.park ≠ .revoke ∧
    HandleCommand.park ≠ .purge ∧ (lease .held 1).holder ≠ 2 ∧
    InHandIs parked 1 0x21 r ∧ Names parked (raw 0x00) 0 (lease .parked 1) ∧ (lease .parked 1).holder = 1 ∧
    HandleCommand.check .park .parked = .wrongState ∧
    InHandIs gone 0 0x21 q ∧ SentBy 0 q ∧ Names gone (raw 0x00) 0 (lease (.revoked .expired) 1) ∧
    handleFormOf q = some (.revoke, raw 0x00, true) ∧ rowOf 0 q = some .revoke ∧
    HandleCommand.check .revoke (.revoked .expired) = .tooLate := by
  unfold InHandIs SentBy Names; decide

/-! ### OPEN and the wait list -/

/-- An OPEN of P1 in hand. -/
def opening (b n : BitVec 16) (cls wait : Byte) (s : State) : State := hand 1 (.openLease b n cls wait 0) s

theorem witness_OpenOutOfRangeIsBadArgument :
    (opening 0x100 0x20 0x02 0x00 base).resetLow = false ∧
    InHandIs (opening 0x100 0x20 0x02 0x00 base) 1 0x21 (.openLease 0x100 0x20 0x02 0x00 0) ∧
    (0 : BitVec 16).toNat = 0 ∧ 256 < (257 : BitVec 16).toNat ∧ ¬ 256 < (256 : BitVec 16).toNat ∧
    0xFFF < (0xF01 : BitVec 16).toNat + (256 : BitVec 16).toNat - 1 ∧
    ¬ 0xFFF < (0xF00 : BitVec 16).toNat + (256 : BitVec 16).toNat - 1 ∧
    ((0x03 : Byte) ≠ 0x01 ∧ (0x03 : Byte) ≠ 0x02) ∧ ((0x02 : Byte) ≠ 0x00 ∧ (0x02 : Byte) ≠ 0x01) := by
  unfold InHandIs; decide

/-- Only T0 is in the map. -/
theorem map_of_T0 {s : State} (h : ∀ t, (s.target t).settings = none ↔ (s.target t).state = .unconfigured)
    (only : ∀ t, (s.span t).isSome = true → t = 0) : MapLaw s :=
  ⟨h, fun t u a b htu ha hb =>
    absurd ((only t (by rw [ha]; rfl)).trans (only u (by rw [hb]; rfl)).symm) htu⟩

/-- T0 in a state. -/
def at0 (st : TargetState) : State := State.reset.setTarget 0 (record st settings0)

theorem witness_OpenFindsItsTarget :
    let s := opening 0x400 0x01 0x02 0x00 base
    let s3 := opening 0x3FF 0x01 0x02 0x00 (at0 .offline)
    s.resetLow = false ∧ InHandIs s 1 0x21 (.openLease 0x400 0x01 0x02 0x00 0) ∧
    windowOf 256 0x400 0x01 = some { base := 0x400, count := 1 } ∧ classOf 0x02 = some .exclusive ∧
    waitFlagOf 0x00 = some false ∧
    (∀ u a, s.span u = some a → ({ base := 0x400, count := 1 } : Window).inside a = false) ∧
    s3.span 0 = some { base := 0x000, count := 0x400 } ∧
    ({ base := 0x3FF, count := 1 } : Window).inside { base := 0x000, count := 0x400 } = true ∧
    (s3.target 0).state = .offline ∧ MapLaw s3 := by
  refine ⟨rfl, rfl, by decide, by decide, by decide, fun u a h => ?_, by decide, by decide, by decide,
    map_of_T0 (by decide) (by decide)⟩
  have := every_span (fun a => !({ base := 0x400, count := 1 } : Window).inside a) (by decide) h
  simpa using this

/-- P1 at its quota of 1. -/
def atQuota : State := { with0 .held with quotas := (with0 .held).quotas.set 1 1 }

theorem witness_OpenAtQuotaIsRefused :
    let s := opening 0x200 0x01 0x02 0x01 atQuota
    s.resetLow = false ∧ InHandIs s 1 0x21 (.openLease 0x200 0x01 0x02 0x01 0) ∧
    OpenFinds s 0x200 0x01 0x02 0x01 (claim0 0x200 1 .exclusive) true ∧
    (allEntries.countP fun i => (s.lease i).any fun l => l.holder == 1) +
      (([0, 1] : List Slot).countP fun k => s.ticket 1 k == .waiting) = s.quota 1 := by
  unfold InHandIs OpenFinds; decide

theorem witness_GrantableOpenIsGranted :
    let s := opening 0x120 0x01 0x02 0x00 (with0 .held)
    let c := claim0 0x120 1 .exclusive
    s.resetLow = false ∧ InHandIs s 1 0x21 (.openLease 0x120 0x01 0x02 0x00 0) ∧
    OpenFinds s 0x120 0x01 0x02 0x00 c false ∧ s.charge 1 ≠ s.quota 1 ∧
    (s.target c.target).state.inService = true ∧
    (∀ j l, s.lease j = some l → l.occupying = true → l.claim.conflicts c = false) ∧
    (∀ w, w ∈ s.waitList → w.claim.conflicts c = false) ∧ LowestFree s 1 := by
  refine ⟨rfl, rfl, by decide, by decide, by decide, fun j l h _ => ?_, by decide, by decide⟩
  have := every_lease (fun l => !l.claim.conflicts (claim0 0x120 1 .exclusive)) (by decide) h
  simpa using this

theorem witness_WaitingOpenIsQueued :
    let c := claim0 0x100 1 .exclusive
    let s := opening 0x100 0x01 0x02 0x01 (with0 .held)
    let s8 := opening 0x100 0x01 0x02 0x01 listFull
    let s7 := opening 0x100 0x01 0x02 0x01 { listFull with waitList := List.replicate 7 waiter2 }
    let st := opening 0x100 0x01 0x02 0x01 ((at0 .probing).setTicket 1 0 (.refused .cleared))
    let both := opening 0x100 0x01 0x02 0x01
      (((with0 .held).setTicket 1 0 (.refused .cleared)).setTicket 1 1 (.refused .cleared))
    s.resetLow = false ∧ InHandIs s 1 0x21 (.openLease 0x100 0x01 0x02 0x01 0) ∧
    OpenFinds s 0x100 0x01 0x02 0x01 c true ∧ s.charge 1 ≠ s.quota 1 ∧ NotGrantable s c ∧
    (s.ticket 1 0 = .unused ∧ ∀ j, j < (0 : Slot) → s.ticket 1 j ≠ .unused) ∧
    (NotGrantable s8 c ∧ 8 ≤ s8.waitList.length ∧ s8.ticket 1 0 = .unused) ∧
    (NotGrantable s7 c ∧ s7.waitList.length = 7 ∧ s7.ticket 1 0 = .unused) ∧
    (OpenFinds st 0x100 0x01 0x02 0x01 c true ∧ NotGrantable st c ∧ st.ticket 1 1 = .unused ∧
      ∀ j, j < (1 : Slot) → st.ticket 1 j ≠ .unused) ∧
    (NotGrantable both c ∧ ∀ k, both.ticket 1 k ≠ .unused) := by
  unfold InHandIs OpenFinds NotGrantable; decide

theorem witness_OpenNotWaitingIsRefused :
    let c := claim0 0x100 1 .exclusive
    let d := claim0 0x300 1 .exclusive
    let s := opening 0x100 0x01 0x02 0x00 (with0 .held)
    let st := opening 0x100 0x01 0x02 0x00 (at0 .probing)
    let sf := hand 2 (.openLease 0x300 0x01 0x02 0x00 0) full
    (s.resetLow = false ∧ InHandIs s 1 0x21 (.openLease 0x100 0x01 0x02 0x00 0) ∧
      OpenFinds s 0x100 0x01 0x02 0x00 c false ∧ s.charge 1 ≠ s.quota 1 ∧ NotGrantable s c ∧
      ∃ i l, s.lease i = some l ∧ l.occupying = true ∧ l.claim.conflicts c = true) ∧
    (OpenFinds st 0x100 0x01 0x02 0x00 c false ∧ st.charge 1 ≠ st.quota 1 ∧ NotGrantable st c ∧
      (st.target 0).state = .probing ∧
      ¬ ((∃ i l, st.lease i = some l ∧ l.occupying = true ∧ l.claim.conflicts c = true) ∨
        ∃ w, w ∈ st.waitList ∧ w.claim.conflicts c = true)) ∧
    OpenFinds sf 0x300 0x01 0x02 0x00 d false ∧ sf.charge 2 ≠ sf.quota 2 ∧ NotGrantable sf d ∧
      (sf.target 0).state ≠ .probing ∧
      ¬ ((∃ i l, sf.lease i = some l ∧ l.occupying = true ∧ l.claim.conflicts d = true) ∨
        ∃ w, w ∈ sf.waitList ∧ w.claim.conflicts d = true) := by
  refine ⟨⟨rfl, rfl, by decide, by decide, by decide, 0, lease .held 1, by decide, by decide, by decide⟩,
    ⟨by decide, by decide, by decide, by decide, ?_⟩, by decide, by decide, by decide, by decide, ?_⟩
  · rintro (⟨i, l, h, _⟩ | ⟨w, h, _⟩)
    · have := every_lease (fun _ => false) (by decide) h
      exact Bool.noConfusion this
    · exact List.not_mem_nil h
  · rintro (⟨i, l, h, _, hc⟩ | ⟨w, h, _⟩)
    · have := every_lease (fun l => !l.claim.conflicts (claim0 0x300 1 .exclusive)) (by decide) h
      simp only [hc] at this
      exact Bool.noConfusion this
    · exact List.not_mem_nil h

theorem witness_CancelEndsATicket :
    let s := hand 1 (.cancel 0x01) (base.setTicket 1 1 (.granted { index := 2, generation := 0x02 }))
    s.resetLow = false ∧ InHandIs s 1 0x21 (.cancel 0x01) ∧ 2 ≤ (0x02 : Byte).toNat ∧
    (0x01 : Byte).toNat = (1 : Slot).val ∧ s.ticket 1 1 = .granted { index := 2, generation := 0x02 } ∧
    base.ticket 1 1 = .unused ∧ (base.setTicket 1 1 (.refused .cleared)).ticket 1 1 = .refused .cleared ∧
    waiting.ticket 2 0 = .waiting := by
  unfold InHandIs; decide

theorem witness_TicketsAreReadAndExpire :
    let s := hand 2 (.ticketRead 0x00) waiting
    s.resetLow = false ∧ InHandIs s 2 0x21 (.ticketRead 0x00) ∧ 2 ≤ (0x02 : Byte).toNat ∧
    (0x00 : Byte).toNat = (0 : Slot).val ∧ s.ticket 2 0 = .waiting ∧ s.ticket 2 1 = .unused ∧
    (base.setTicket 1 1 (.refused .cleared)).ticket 1 1 = .refused .cleared ∧
    (base.setTicket 1 1 (.granted (tag1 3))).ticket 1 1 = .granted (tag1 3) ∧
    waiting.waiterAt 2 0 = some waiter2 ∧ waiter2.due = true := by
  unfold InHandIs; decide

theorem witness_ScanKeepsTheListsOrder :
    let v : Waiter := { waiter2 with slot := 1, claim := claim0 0x117 0x01 .exclusive }
    let s : State := { waiting with waitList := [waiter2, v] }
    s.waitList = [] ++ waiter2 :: [] ++ v :: [] ∧ waiter2.claim.conflicts v.claim = true ∧
    base.lease 0 = none ∧ (with0 .held).lease 0 = some (lease .held 1) ∧
    (∀ w, w ∈ s.waitList → ¬ (w.port = 1 ∧ w.slot = 0)) ∧
    (scan s).waitList = [] ++ v :: [] ∧ s.waitersOf waiter2.port waiter2.slot = 1 ∧
    waiter2 ∈ s.waitList ∧ waiter2 ∉ (scan s).waitList := by decide +kernel

theorem witness_ScanGrantsTheOldest :
    let s : State := { with0 .held with waitList := [waiter2] }
    let sf : State := { full with waitList := [{ waiter2 with claim := claim0 0x300 1 .exclusive }] }
    (waiting.waitList = [waiter2] ∧ (∀ x, x ∈ ([] : List Waiter) → ¬ (x.port = 2 ∧ x.slot = 0)) ∧
      (waiting.target waiter2.claim.target).state.inService = true ∧
      (∀ j l, waiting.lease j = some l → l.occupying = true → l.claim.conflicts waiter2.claim = false) ∧
      LowestFree waiting 0) ∧
    (s.waitList = [waiter2] ∧
      ¬ (∀ j l, s.lease j = some l → l.occupying = true → l.claim.conflicts waiter2.claim = false)) ∧
    ∀ i, sf.lease i ≠ none := by
  refine ⟨⟨rfl, by decide, by decide, fun j l h => ?_, by decide⟩, ⟨rfl, fun h => ?_⟩, by decide⟩
  · have := every_lease (fun _ => false) (by decide) h
    exact Bool.noConfusion this
  · exact absurd (h 0 (lease .held 1) rfl rfl) (by decide)

/-! ### Lease and supervisor commands -/

/-- RENEW in hand at P1 on entry 0 at a balance. -/
def renewing (b : Int) (n : Byte) (st : LeaseState) : State :=
  hand 1 (.renew (raw 0x00) n) (withLease 0 { lease st 1 with balance := b } base)

theorem witness_RenewRaisesTheBalance :
    let s := renewing 0 0x08 .held
    s.resetLow = false ∧ InHandIs s 1 0x21 (.renew (raw 0x00) 0x08) ∧
    Names s (raw 0x00) 0 (lease .held 1) ∧ (lease .held 1).holder = 1 ∧ HeldOrParked (lease .held 1) ∧
    1 ≤ (0x08 : Byte).toNat ∧ (0x08 : Byte).toNat ≤ 8 ∧
    (lease .held 1).balance + (0x08 : Byte).toNat ≤ 8 := by
  unfold InHandIs Names HeldOrParked; decide

theorem witness_RenewAboveCreditIsRefused :
    let s := renewing 1 0x08 .parked
    let l : Lease := { lease .parked 1 with balance := 1 }
    s.resetLow = false ∧ InHandIs s 1 0x21 (.renew (raw 0x00) 0x08) ∧ Names s (raw 0x00) 0 l ∧
    l.holder = 1 ∧ HeldOrParked l ∧ 1 ≤ (0x08 : Byte).toNat ∧ (0x08 : Byte).toNat ≤ 8 ∧
    8 < l.balance + (0x08 : Byte).toNat ∧
    ∃ t res, exec (.renew 1) s = .next t ∧
      (t.link 1).link = .responseReady { tag := 0x21, status := .creditFull, results := res } :=
  ⟨rfl, rfl, by decide, rfl, by decide, by decide, by decide, by decide, _, _, rfl, rfl⟩

/-- With no write stalled, nothing is to be refused. -/
theorem none_stalled {s : State} (h : s.stalled = none) (i : EntryIx) (r : FaultReason) :
    StalledRefused i r s s :=
  ⟨fun _ => rfl, fun _ hw => nomatch (h.symm.trans hw)⟩

/-- The write stalled under entry 0 is refused. -/
theorem some_stalled (r : FaultReason) :
    StalledRefused 0 r stalledWrite (refuseStalledUnder 0 r stalledWrite) :=
  ⟨fun h => absurd rfl (h write1 rfl), fun w hw _ => by
    obtain rfl : write1 = w := Option.some.inj hw
    exact ⟨rfl, rfl, enterFault_entered _ _ _, refuseStalledUnder_keeps _ _ _⟩⟩

theorem witness_CloseFreesOrDrains :
    let s := hand 1 (.close (raw 0x00)) (with0 .parked)
    let so := hand 1 (.close (raw 0x00)) (with0out .held)
    (s.resetLow = false ∧ InHandIs s 1 0x21 (.close (raw 0x00)) ∧ Names s (raw 0x00) 0 (lease .parked 1) ∧
      HeldOrParked (lease .parked 1) ∧ (lease .parked 1).outstanding = 0 ∧
      StalledRefused 0 .leaseRetiring s s) ∧
    InHandIs so 1 0x21 (.close (raw 0x00)) ∧
      Names so (raw 0x00) 0 { lease .held 1 with outstanding := 1 } ∧
    InHandIs (hand 1 (.close (raw 0x00)) stalledWrite) 1 0x21 (.close (raw 0x00)) ∧
      ∃ v, StalledRefused 0 .leaseRetiring stalledWrite v :=
  ⟨⟨rfl, rfl, by decide, by decide, rfl, none_stalled rfl 0 _⟩, rfl, by decide, rfl, _, some_stalled _⟩

theorem witness_ParkAndUnparkChangeTheState :
    let s := hand 1 (.park (raw 0x00)) (with0 .held)
    let t := hand 1 (.unpark (raw 0x00)) (with0 .parked)
    (s.resetLow = false ∧ InHandIs s 1 0x21 (.park (raw 0x00)) ∧ Names s (raw 0x00) 0 (lease .held 1) ∧
      StalledRefused 0 .leaseParked s s) ∧
    t.resetLow = false ∧ InHandIs t 1 0x21 (.unpark (raw 0x00)) ∧
      Names t (raw 0x00) 0 (lease .parked 1) ∧ ∃ v, StalledRefused 0 .leaseParked stalledWrite v :=
  ⟨⟨rfl, rfl, by decide, none_stalled rfl 0 _⟩, rfl, rfl, by decide, _, some_stalled _⟩

/-- A RESHAPE to 120H+1 EXCLUSIVE in hand at P1 on the PARKED entry 0. -/
def reshaping (s : State) : State := hand 1 (.reshape (raw 0x00) 0x120 0x01 0x02) s

theorem witness_ReshapeMovesAParkedLease :
    let s := reshaping (with0 .parked)
    let sc := reshaping (withLease 1 { lease .held 2 with claim := claim0 0x120 1 .sharedRead } (with0 .parked))
    let c := claim0 0x120 1 .exclusive
    let w : Window := { base := 0x120, count := 1 }
    let span : Window := { base := 0x000, count := 0x400 }
    (s.resetLow = false ∧ InHandIs s 1 0x21 (.reshape (raw 0x00) 0x120 0x01 0x02) ∧
      Names s (raw 0x00) 0 (lease .parked 1) ∧ windowOf 256 0x120 0x01 = some w ∧
      classOf 0x02 = some .exclusive ∧ s.span 0 = some span ∧ w.inside span = true ∧
      ¬ ∃ j m, j ≠ 0 ∧ s.lease j = some m ∧ m.occupying = true ∧ m.claim.conflicts c = true) ∧
    (∃ j m, j ≠ 0 ∧ sc.lease j = some m ∧ m.occupying = true ∧ m.claim.conflicts c = true) ∧
    ({ base := 0x3FF, count := 2 } : Window).inside span = false ∧
    (reshaping (with0out .parked)).lease 0 = some { lease .parked 1 with outstanding := 1 } := by
  refine ⟨⟨rfl, rfl, by decide, by decide, by decide, by decide, by decide, ?_⟩, ⟨1, _, by decide, rfl, rfl, by decide⟩,
    by decide, by decide⟩
  rintro ⟨j, m, hj, h, _⟩
  have only : ∀ j, j ≠ 0 → (reshaping (with0 .parked)).lease j = none := by decide
  exact nomatch (only j hj).symm.trans h

theorem witness_TombstonesAreFreed :
    let s := hand 1 (.ackRevoke (raw 0x00)) (with0 (.revoked .expired))
    let q := hand 0 (.purgeHandle (raw 0x00)) (with0 (.revoked .expired))
    let t := hand 0 (.purgePort 0x05) base
    s.resetLow = false ∧ InHandIs s 1 0x21 (.ackRevoke (raw 0x00)) ∧
    Names s (raw 0x00) 0 (lease (.revoked .expired) 1) ∧
    InHandIs q 0 0x21 (.purgeHandle (raw 0x00)) ∧ Names q (raw 0x00) 0 (lease (.revoked .expired) 1) ∧
    InHandIs t 0 0x21 (.purgePort 0x05) ∧ (0x05 : Byte).toNat = (5 : Port).val ∧
    6 ≤ (0x06 : Byte).toNat := by
  unfold InHandIs Names; decide

theorem witness_DirectoryClearRevokesAndEmpties :
    let s := hand 0 .directoryClear
      { withLease 1 { lease .parked 2 with outstanding := 1 } (with0 .held) with waitList := [waiter2] }
    s.resetLow = false ∧ InHandIs s 0 0x21 .directoryClear ∧ s.stalled = none ∧
    stalledWrite.stalled = some write1 ∧ stalledWrite.lease write1.handle.index = some (lease .held 1) ∧
    s.lease 0 = some (lease .held 1) ∧ s.lease 1 = some { lease .parked 2 with outstanding := 1 } ∧
    0 < s.waitersOf 2 0 := by
  unfold InHandIs; decide

theorem witness_RevokeEndsALiveLease :
    let s := hand 0 (.revoke (raw 0x00)) (with0 .parked)
    let so := hand 0 (.revoke (raw 0x00)) (with0out .held)
    (s.resetLow = false ∧ InHandIs s 0 0x21 (.revoke (raw 0x00)) ∧ Names s (raw 0x00) 0 (lease .parked 1) ∧
      HeldOrParked (lease .parked 1) ∧ StalledRefused 0 .leaseRetiring s s) ∧
    Names so (raw 0x00) 0 { lease .held 1 with outstanding := 1 } ∧
    ∃ v, StalledRefused 0 .leaseRetiring stalledWrite v :=
  ⟨⟨rfl, rfl, by decide, by decide, none_stalled rfl 0 _⟩, by decide, _, some_stalled _⟩

theorem witness_StalledWriteIsRefusedWithItsLease :
    let h : RawHandle := { index := byteOf write1.handle.index, generation := write1.handle.generation }
    let s := hand 1 (.park h) stalledWrite
    s.resetLow = false ∧ s.stalled = some write1 ∧
    s.entry write1.handle.index = { generation := write1.handle.generation, lease := some (lease .held 1) } ∧
    (lease .held 1).state = .held ∧ (lease .held 1).holder = write1.port ∧
    InHandIs s write1.port 0x21 (.park h) ∧
    InHandIs (hand 1 (.close h) stalledWrite) write1.port 0x21 (.close h) ∧
    InHandIs (hand 0 (.revoke h) stalledWrite) 0 0x21 (.revoke h) ∧
    InHandIs (hand 0 .directoryClear stalledWrite) 0 0x21 .directoryClear ∧
    ({ lease .held 1 with balance := -8, boundaryDue := true } : Lease).boundaryDue = true ∧
    (lease .held 1).outstanding = 0 ∧ ({ lease .held 1 with outstanding := 4 } : Lease).outstanding ≠ 0 := by
  unfold InHandIs; decide

theorem witness_PortResetClearsThePort :
    let s := hand 0 (.portReset 0x05) writing
    writing.resetLow = false ∧ (writing.link 1).prstLow = false ∧ (writing.link 1).transfer = .idle ∧
    writing.tgr 1 = true ∧ s.resetLow = false ∧ InHandIs s 0 0x21 (.portReset 0x05) ∧
    (0x05 : Byte).toNat = (5 : Port).val ∧ (5 : Port) ≠ 0 ∧ 6 ≤ (0x06 : Byte).toNat ∧ s.tgr 5 = false ∧
    InHandIs (hand 0 (.portReset 0x00) base) 0 0x21 (.portReset 0x00) ∧
    ((base.setLink 1 { base.link 1 with prstLow := true }).link 1).prstLow = true ∧
    reading.tgr 1 = true ∧ reading.inHand = true ∧ writing.inHand = false ∧
    ((linked (.responseReady response5) (.read (some response5) false)).link 1).transfer =
      .read (some response5) false := by
  unfold InHandIs; decide

/-- R169: PORT_RESET cuts the read transfer of its port, so that LDOn is high from there on. -/
theorem test_port_reset_cuts_a_read :
    let s := hand 0 (.portReset 0x01) (linked (.responseReady response5) (.read (some response5) false))
    (s.ldo 1 0, (after s (exec .portReset s)).ldo 1 0, response 1 (after s (exec .portReset s))) =
      (false, true, none) := by decide +kernel

theorem witness_SettingsAreSet :
    let s := hand 0 (.setQuota 0x05 0x20) (with0 .held)
    let k := hand 0 (.setTimebase 0x0A) base
    let v := hand 0 (.setPriority 0x05 0x03) base
    let h := hand 0 (.setHold 0x05 0x0FFF 0xFF) base
    s.resetLow = false ∧ InHandIs s 0 0x21 (.setQuota 0x05 0x20) ∧ 32 < (0x21 : Byte).toNat ∧
    6 ≤ (0x06 : Byte).toNat ∧ (0x05 : Byte).toNat = (5 : Port).val ∧ (0x20 : Byte).toNat ≤ 32 ∧
    s.charge 5 ≤ (0x20 : Byte).toNat ∧
    (0x01 : Byte).toNat < (withLease 1 (lease .parked 1) (with0 .held)).charge 1 ∧
    k.resetLow = false ∧ InHandIs k 0 0x21 (.setTimebase 0x0A) ∧ 10 < (0x0B : Byte).toNat ∧
    (0x0A : Byte).toNat ≤ 10 ∧
    v.resetLow = false ∧ InHandIs v 0 0x21 (.setPriority 0x05 0x03) ∧ 4 ≤ (0x04 : Byte).toNat ∧
    (0x03 : Byte).toNat = (3 : Fin 4).val ∧
    h.resetLow = false ∧ InHandIs h 0 0x21 (.setHold 0x05 0x0FFF 0xFF) ∧
    4095 < (0x1000 : BitVec 16).toNat ∧ (0x0FFF : BitVec 16).toNat ≤ 4095 ∧ (0xFF : Byte) ≠ 0x00 := by
  unfold InHandIs; decide

theorem witness_ReportsReturnTheRecord :
    let s := hand 1 (.status (raw 0x00)) (with0 (.revoked .expired))
    let d := hand 0 (.directoryRead 0x1F) base
    let t := hand 0 (.targetStatus 0x03) base
    s.resetLow = false ∧ InHandIs s 1 0x21 (.status (raw 0x00)) ∧
    Names s (raw 0x00) 0 (lease (.revoked .expired) 1) ∧
    d.resetLow = false ∧ InHandIs d 0 0x21 (.directoryRead 0x1F) ∧ 0x1F < (0x20 : Byte).toNat ∧
    (0x1F : Byte).toNat = (31 : EntryIx).val ∧ d.entry 31 = { generation := 0x00, lease := none } ∧
    (with0 .held).entry 0 = { generation := 0x01, lease := some (lease .held 1) } ∧
    t.resetLow = false ∧ InHandIs t 0 0x21 (.targetStatus 0x03) ∧ 3 < (0x04 : Byte).toNat ∧
    (0x03 : Byte).toNat = (3 : TargetIx).val := by
  unfold InHandIs Names; decide

/-- R20: DIRECTORY_READ of an entry that is FREE. -/
theorem test_directory_read_free :
    answers 0 .directoryRead (hand 0 (.directoryRead 0x1F) base) =
      some (0x21, .ok, [0x1F, 0x00, 0x00, 0xFF, 0xFF, 0x00, 0x00, 0x00, 0x00, 0x00, 0x00, 0x00, 0x00, 0x00,
        0x00, 0x00]) := by decide +kernel

/-- CONFIGURE_TARGET of a target over a base page and 400H pages, with or without a probe. -/
def targetArgs (t : Byte) (b : BitVec 16) (e : Byte) : TargetArgs :=
  { target := t, base := b, count := 0x400, waitStates := 0x0F, readyTimeout := 0x1000, term := 0xFFFF
    probeEnable := e, probeAddress := b.extractLsb' 0 12 ++ (0xFFC : BitVec 12), signature := 0xA5C30F1E }

/-- R150: the arguments that the first check passes, as `TargetsAreConfiguredAndReleased` writes them. -/
def inRange (a : TargetArgs) : Bool :=
  let last := a.base.toNat + a.count.toNat - 1
  let page := a.probeAddress.toNat / 4096
  decide (¬ (3 < a.target.toNat ∨ a.count.toNat = 0 ∨ 4096 < a.count.toNat ∨ 0xFFF < last ∨
    15 < a.waitStates.toNat ∨ a.readyTimeout.toNat < 16 ∨ 4096 < a.readyTimeout.toNat ∨
    a.readyTimeout.toNat % 16 ≠ 0 ∨ a.term.toNat = 0 ∨ (a.probeEnable ≠ 0x00 ∧ a.probeEnable ≠ 0x01) ∨
    (a.probeEnable = 0x01 ∧ (a.probeAddress.toNat % 4 ≠ 0 ∨ page < a.base.toNat ∨ last < page))))

/-- No occupying entry names the target. -/
theorem unoccupied {s : State} {t : TargetIx}
    (h : ∀ i, (s.lease i).all (fun l => !(l.occupying && l.claim.target == t)) = true) :
    ¬ ∃ i l, s.lease i = some l ∧ l.occupying = true ∧ l.claim.target = t := by
  rintro ⟨i, l, hl, ho, ht⟩
  have := every_lease _ h hl
  simp [ho, ht] at this

theorem witness_TargetsAreConfiguredAndReleased :
    let s := hand 0 (.configureTarget (targetArgs 0x01 0x400 0x01)) base
    let r := hand 0 (.releaseTarget 0x00) base
    (s.resetLow = false ∧ InHandIs s 0 0x21 (.configureTarget (targetArgs 0x01 0x400 0x01)) ∧
      3 < (targetArgs 0x04 0x400 0x01).target.toNat ∧ inRange (targetArgs 0x01 0x400 0x01) = true ∧
      inRange (targetArgs 0x01 0xC00 0x01) = true ∧ inRange (targetArgs 0x01 0xC01 0x00) = false ∧
      inRange { targetArgs 0x01 0x400 0x01 with probeAddress := 0x3FFFFC } = false ∧
      inRange { targetArgs 0x01 0x400 0x01 with probeAddress := 0x7FFFFC } = true ∧
      inRange { targetArgs 0x01 0x400 0x01 with probeAddress := 0x800000 } = false ∧
      inRange { targetArgs 0x01 0x400 0x01 with probeAddress := 0x400002 } = false ∧
      (0x01 : Byte).toNat = (1 : TargetIx).val ∧
      ({ base := 0x400, count := 0x400 } : Window).overlaps settings0.span = false ∧
      s.span 0 = some settings0.span ∧
      ({ base := 0x3FF, count := 0x400 } : Window).overlaps settings0.span = true ∧
      (s.target 1).state ≠ .probing ∧ (∀ w, w ≠ 0 → s.span w = none)) ∧
    (¬ ∃ i l, s.lease i = some l ∧ l.occupying = true ∧ l.claim.target = 1) ∧
    (∃ i l, (with0 .held).lease i = some l ∧ l.occupying = true ∧ l.claim.target = 0) ∧
    ((at0 .probing).target 0).state = .probing ∧
    (r.resetLow = false ∧ InHandIs r 0 0x21 (.releaseTarget 0x00) ∧ 3 < (0x04 : Byte).toNat ∧
      (0x00 : Byte).toNat = (0 : TargetIx).val ∧ (r.target 0).state ≠ .probing) ∧
    ¬ ∃ i l, r.lease i = some l ∧ l.occupying = true ∧ l.claim.target = 0 :=
  ⟨⟨rfl, rfl, by decide, by decide, by decide, by decide, by decide, by decide, by decide, by decide,
    by decide, by decide, by decide, by decide, by decide, by decide⟩, unoccupied (by decide), ⟨0, _, rfl, rfl, rfl⟩, by decide,
    ⟨rfl, rfl, by decide, by decide, by decide⟩, unoccupied (by decide)⟩

theorem witness_TargetsAreConfiguredAndReleased_idle :
    let s := hand 0 (.configureTarget (targetArgs 0x01 0x400 0x01)) base
    s.current = none ∧ EngineLaw s :=
  ⟨rfl, fun _ => by decide, fun _ h => no_some h⟩

/-! ### Ticks, term boundaries and drains -/

theorem witness_TickCountsInEveryTimer :
    let s := withLease 1 { lease .parked 2 with interval := 2 } (withLease 0 { lease .held 1 with interval := 1 }
      { base with waitList := [{ waiter2 with due := false }, { waiter2 with due := false, remaining := some 2 }]
                  arb := { base.arb with holdTimer := { count := 1, running := true, due := false } } })
    s.resetLow = false ∧ (∀ i l, s.lease i = some l → l.boundaryDue = false) ∧
    (∀ w, w ∈ s.waitList → w.due = false) ∧ s.arb.holdTimer.due = false ∧ s.arb.graceTimer.due = false ∧
    s.arb.holdTimer.running = true ∧ s.arb.graceTimer.running = false ∧
    s.lease 0 = some { lease .held 1 with interval := 1 } ∧
    s.lease 1 = some { lease .parked 2 with interval := 2 } := by
  refine ⟨rfl, fun i l h => ?_, by decide, rfl, rfl, rfl, rfl, by decide, by decide⟩
  have := every_lease (fun l => !l.boundaryDue) (by decide) h
  simpa using this

/-- Entry 0 of P1 with its boundary due, at a balance. -/
def dueAt (st : LeaseState) (b : Int) : Lease := { lease st 1 with balance := b, boundaryDue := true, interval := 1 }

theorem witness_BoundaryDrawsOrRevokes :
    let s := withLease 0 (dueAt .held (-7)) base
    let e := withLease 0 (dueAt .held (-8)) base
    (s.resetLow = false ∧ s.entry 0 = { generation := 0x01, lease := some (dueAt .held (-7)) } ∧
      -8 < (dueAt .held (-7)).balance) ∧
    (e.entry 0 = { generation := 0x01, lease := some (dueAt .held (-8)) } ∧
      (dueAt .held (-8)).balance ≤ -8 ∧ (dueAt .held (-8)).outstanding = 0) ∧
    StalledRefused 0 .leaseRetiring e e ∧ ∃ v, StalledRefused 0 .leaseRetiring stalledWrite v :=
  ⟨by decide, by decide, none_stalled rfl 0 _, _, some_stalled _⟩

theorem witness_BoundaryOfAParkedLease :
    let s := withLease 0 (dueAt .parked (-8)) base
    let h : RawHandle := { index := byteOf (0 : EntryIx), generation := 0x01 }
    s.resetLow = false ∧ s.entry 0 = { generation := 0x01, lease := some (dueAt .parked (-8)) } ∧
    InHandIs (hand 1 (.unpark h) s) (dueAt .parked (-8)).holder 0x21 (.unpark h) ∧
    InHandIs (hand 1 (.renew h 0x08) s) (dueAt .parked (-8)).holder 0x21 (.renew h 0x08) ∧
    (dueAt .parked (-8)).balance + (0x08 : Byte).toNat ≤ 8 ∧
    (withLease 0 (dueAt .held (-8)) base).entry 0 = { generation := 0x01, lease := some (dueAt .held (-8)) } := by
  unfold InHandIs; decide

/-- A CLOSE of entry 0 that waits in hand at P1. -/
def closing1 (s : State) : State :=
  s.setLink 1 { s.link 1 with
    link := .command { tag := 0x31, request := .close (raw 0x00), closing := some { index := 0, found := 1 } } }

theorem witness_DrainEndsInFreeOrTombstone :
    ((closing1 (with0 .closing)).resetLow = false ∧
      (closing1 (with0 .closing)).entry 0 = { generation := 0x01, lease := some (lease .closing 1) } ∧
      (lease .closing 1).outstanding = 0 ∧
      ((closing1 (with0 .closing)).link 1).link = .command
        { tag := 0x31, request := .close (raw 0x00), closing := some { index := 0, found := 1 } }) ∧
    (∀ tag r n, ((with0 .closing).link 1).link ≠ .command
      { tag := tag, request := r, closing := some { index := 0, found := n } }) ∧
    (with0 (.revoking .expired false)).entry 0 =
      { generation := 0x01, lease := some (lease (.revoking .expired false) 1) } ∧
    (with0 (.revoking .portReset false)).lease 0 = some (lease (.revoking .portReset false) 1) :=
  ⟨by decide, fun _ _ _ h => LinkState.noConfusion h, by decide, by decide⟩

/-! ### The bus -/

/-- P1 owns the bus and P2 waits at P1's level. -/
def contended (r : Requester) : State :=
  let s := owned 1 r base
  s.setRequesting 2 { s.requesting 2 with req := .waiting, trq := true }

theorem witness_RequestLinesAreTaken :
    base.resetLow = false ∧ (base.link 1).prstLow = false ∧ (base.requesting 1).trq = false ∧
    base.requester 1 = .idle ∧ base.arb.bus = .free ∧ ((contended .owner).requesting 0).trq = false ∧
    (contended .owner).arb.bus ≠ .free ∧
    ((contended .preempted).setTrq 1 false).requester 1 ≠ .idle ∧
    ((contended .owner).requesting 2).trq = true ∧ (contended .owner).tgr 2 = false ∧
    (reading.requesting 1).trq = true ∧ reading.tgr 1 = true ∧ reading.inHand = true ∧
    writing.tgr 1 = true ∧ writing.inHand = false ∧
    ((contended .owner).setLink 2 { base.link 2 with prstLow := true }).resetLow = false ∧
    (((contended .owner).setLink 2 { base.link 2 with prstLow := true }).link 2).prstLow = true ∧
    (((contended .owner).setLink 2 { base.link 2 with prstLow := true }).requesting 2).trq = true ∧
    (((contended .owner).setLink 0 { base.link 0 with prstLow := true }).link 0).prstLow = true ∧
    (((contended .owner).setLink 0 { base.link 0 with prstLow := true }).requesting 0).trq = false := by decide

/-- P2 and P4 wait at level 1, the level's pointer at P2. -/
def twoWait : State :=
  let s := base.setRequesting 2 { base.requesting 2 with req := .waiting }
  let s1 := s.setRequesting 4 { s.requesting 4 with req := .waiting, hold := 5 }
  { s1 with arb := { s1.arb with pointers := s1.arb.pointers.set 1 2 } }

theorem witness_ArbitrationGrantsInTurn :
    (contended .owner).arb.bus ≠ .free ∧ (∀ p, base.requester p ≠ .waiting) ∧
    twoWait.arb.bus = .free ∧ twoWait.requester 4 = .waiting ∧ (twoWait.requesting 4).hold ≠ 0 ∧
    (∀ q, twoWait.requester q = .waiting → (twoWait.requesting q).level ≤ (twoWait.requesting 4).level) ∧
    ∀ q, twoWait.requester q = .waiting → (twoWait.requesting q).level = (twoWait.requesting 4).level →
      (4 : Port) - twoWait.arb.pointers[(twoWait.requesting 4).level] - 1 ≤
        q - twoWait.arb.pointers[(twoWait.requesting 4).level] - 1 := by decide

/-- The arbiter's timers and flag, set. -/
def timed (hold grace overdue : Bool) (s : State) : State :=
  { s with arb := { s.arb with
      holdTimer := { count := 1, running := hold, due := hold }
      graceTimer := { count := 1, running := grace, due := grace }
      overdue := overdue } }

/-- P2, with a hold limit of 0, waits alone, and the stopped hold timer stands at 7. -/
def loneWait : State :=
  let s := base.setRequesting 2 { base.requesting 2 with req := .waiting }
  { s with arb := { s.arb with holdTimer := { count := 7, running := false, due := false } } }

theorem witness_ArbitrationGrantsInTurn_no_hold_limit :
    loneWait.arb.bus = .free ∧ loneWait.requester 2 = .waiting ∧ (loneWait.requesting 2).hold = 0 ∧
    (∀ q, loneWait.requester q = .waiting → (loneWait.requesting q).level ≤ (loneWait.requesting 2).level) ∧
    ∀ q, loneWait.requester q = .waiting → (loneWait.requesting q).level = (loneWait.requesting 2).level →
      (2 : Port) - loneWait.arb.pointers[(loneWait.requesting 2).level] - 1 ≤
        q - loneWait.arb.pointers[(loneWait.requesting 2).level] - 1 := by decide

/-- R47, R99: a grant with a hold limit of 0 loads no hold timer, and the stopped one keeps its count. -/
theorem test_grant_keeps_stopped_count :
    (arbitrate loneWait).arb.holdTimer = { count := 7, running := false, due := false } := by decide

theorem witness_HoldAndGraceTimersEnforceTheYield :
    let s := timed true false false (contended .owner)
    let lone := timed true false false (owned 1 .owner base)
    let late := timed false false true (contended .owner)
    let y := timed false true false (contended .yielding)
    s.resetLow = false ∧ s.arb.bus = .owned 1 ∧ s.requester 1 = .owner ∧
    s.arb.inForce = some { hold := 0, grace := 8 } ∧ s.arb.holdTimer.due = true ∧
    (∃ q, s.requester q = .waiting ∧ (s.requesting 1).level ≤ (s.requesting q).level) ∧
    lone.arb.holdTimer.due = true ∧ (¬ ∃ q, lone.requester q = .waiting) ∧ late.arb.overdue = true ∧
    y.arb.bus = .owned 1 ∧ y.requester 1 = .yielding ∧ y.arb.graceTimer.due = true ∧
    y.stalled = none ∧ y.inHand = false := by
  refine ⟨rfl, rfl, rfl, rfl, rfl, ⟨2, rfl, by decide⟩, rfl, by decide, rfl, rfl, rfl, rfl, rfl, rfl⟩

/-- The yielding owner P1, its grace counted out, has a write stalled, or a read in the engine. -/
def preempted (w : Option PostedWrite) (x : Option PendingRead) : State :=
  { timed false true false (contended .yielding) with stalled := w, read := x }

theorem witness_HoldAndGraceTimersEnforceTheYield_in_hand :
    let y := preempted (some write1) none
    let z := preempted none (some read1)
    y.resetLow = false ∧ y.arb.bus = .owned 1 ∧ y.requester 1 = .yielding ∧ y.arb.graceTimer.due = true ∧
    y.stalled = some write1 ∧
    z.resetLow = false ∧ z.arb.bus = .owned 1 ∧ z.requester 1 = .yielding ∧ z.arb.graceTimer.due = true ∧
    z.stalled = none ∧ z.read = some read1 ∧ read1.deliver = true := by decide

/-- R106, R107: a preemption ends the stalled write with IERR and one fault, and leaves a read's bus in
HANDOVER. -/
theorem test_preemption_in_hand :
    let y := preempted (some write1) none
    let z := preempted none (some read1)
    ((after y (exec .preemption y)).stalled, (after y (exec .preemption y)).arb.bus,
      (after z (exec .preemption z)).arb.bus, (after z (exec .preemption z)).arb.inForce) =
      (none, BusState.owned 2, BusState.handover, none) := by decide +kernel

/-! ### Accesses -/

/-- P1 owns the bus and has entry 0 in a state. -/
def ready (st : LeaseState) (c : LeaseClass) : State :=
  withLease 0 { lease st 1 with claim := claim0 0x100 0x20 c } (owned 1 .owner base)

theorem witness_AccessIsAdmitted :
    let s := ready .held .exclusive
    let l : Lease := lease .held 1
    s.resetLow = false ∧ s.arb.bus = .owned 1 ∧ s.inHand = false ∧
    s.entry 0 = { generation := 0x01, lease := some l } ∧
    AdmissionPasses s 1 (pageOf (byteAddr 0x40000)) .write 0 l 0 ∧ pageOf (byteAddr 0x40000) = 0x100 ∧
    AdmissionPasses s 1 (pageOf (byteAddr 0x47FFF)) .read 0 l 0 ∧ pageOf (byteAddr 0x47FFF) = 0x11F ∧
    ([0x5] : List Word).length = Burst.words .w1 ∧ s.queue.length < 4 ∧
    4 ≤ { s with queue := List.replicate 4 write1 }.queue.length := by
  unfold AdmissionPasses; decide

theorem witness_AccessIsRefused :
    let s := ready .held .sharedRead
    let page := pageOf (byteAddr 0x40000)
    s.resetLow = false ∧ Access.whole (.write .w1 [0x5]) = true ∧ s.arb.bus = .owned 1 ∧ s.inHand = false ∧
    AdmissionFails s 1 page .write .readOnly (some (tag1 0)) (some 0) ∧
    AdmissionFails s 1 0x400 .read .unmapped none none ∧
    AdmissionFails s 1 0x120 .read .noLease none (some 0) ∧
    AdmissionFails (ready .parked .exclusive) 1 page .read .leaseParked (some (tag1 0)) (some 0) ∧
    AdmissionFails (ready .closing .exclusive) 1 page .read .leaseRetiring (some (tag1 0)) (some 0) ∧
    AdmissionFails (owned 1 .owner (at0 .offline)) 1 page .read .targetDown none (some 0) ∧
    0 < Burst.words .w1 ∧ 7 < Burst.words .w8 ∧ reading.inHand = true ∧ reading.arb.bus = .owned 1 ∧
    (∀ p, base.arb.bus ≠ .owned p) ∧ base.arb.recent = none ∧
    { base with arb := { base.arb with recent := some 4 } }.arb.recent = some 4 := by
  refine ⟨by decide, by decide, by decide, by decide, ?_, Or.inl (by decide),
    Or.inr ⟨0, by decide, rfl, Or.inr ⟨by decide, Or.inl (by decide)⟩⟩, ?_, ?_,
    Or.inr ⟨0, by decide, rfl, Or.inl (by decide)⟩, by decide⟩
  · exact Or.inr ⟨0, by decide, rfl, Or.inr ⟨by decide, Or.inr ⟨0, 0x01, _, by decide, rfl, by decide,
      Or.inr (Or.inr (by decide))⟩⟩⟩
  · exact Or.inr ⟨0, by decide, rfl, Or.inr ⟨by decide, Or.inr ⟨0, 0x01, _, by decide, rfl, by decide,
      Or.inl (by decide)⟩⟩⟩
  · exact Or.inr ⟨0, by decide, rfl, Or.inr ⟨by decide, Or.inr ⟨0, 0x01, _, by decide, rfl, by decide,
      Or.inr (Or.inl (by decide))⟩⟩⟩

theorem witness_EngineAdmitsAndStarts :
    let s := { stalledWrite with queue := List.replicate 3 write1 }
    let probed := base.setProbe 3 (some { address := 0, captured := none })
    s.resetLow = false ∧ s.stalled = some write1 ∧
    s.entry write1.handle.index = { generation := 0x01, lease := some (lease .held 1) } ∧
    s.queue.length < 4 ∧ s.current = none ∧ s.queue = write1 :: List.replicate 2 write1 ∧
    { base with read := some read1 }.read = some read1 ∧ base.queue = [] ∧ base.read = none ∧
    base.current = none ∧ probed.probe 3 ≠ none ∧ (∀ u, u < 3 → probed.probe u = none) ∧
    (∀ t, base.probe t = none) := by decide

theorem witness_AccessRunsInReferencePeriods :
    writing.current = some (current .write) ∧ (current .write).phase = .setup ∧
    (current .write).taken = 0 ∧ 1 ≤ writing.currentWords .write ∧ 1 ≤ (current .write).readyTimeout ∧
    reading.current = some (current .read) ∧ 1 ≤ reading.currentWords .read ∧
    writing.resetLow = false ∧ reading.resetLow = false ∧ read1.buffer = [] ∧
    (List.replicate (1 + writing.currentWords .write * (2 + 0x40)) ((false, 0x7) : Bool × Word)).length =
      1 + writing.currentWords .write * ((current .write).waitStates + (current .write).readyTimeout) := by
  decide +kernel

theorem witness_AccessRunsInReferencePeriods_lines :
    base.current = none ∧ writing.tcsLow 0 = true ∧ writing.current = some (current .write) ∧
    (current .write).holding = .write ∧ writing.queue = [write1] ∧ (current .read).holding = .read ∧
    reading.read = some read1 ∧ probing.current = some (current (.probe 0)) ∧
    (current (.probe 0)).holding = .probe 0 ∧
    probing.probe 0 = some { address := 0xFFC, captured := none } ∧
    { current .write with phase := .word 0 1 }.phase = .word 0 1 ∧
    (∀ w n, (current .write).phase ≠ .word w n) := by
  refine ⟨rfl, by decide, rfl, rfl, by decide, rfl, rfl, rfl, rfl, by decide, rfl, fun _ _ h => Phase.noConfusion h⟩

/-- R114, R135: the last word of a burst of four that began at its third word is driven at the block's second
word, as an offset in the span. -/
theorem test_target_address_wraps :
    { writing with
      queue := [{ write1 with address := 0x041238, burst := .w4, data := [0x1, 0x2, 0x3, 0x4] }]
      current := some { current .write with taken := 3, phase := .word 0 1, base := 0x040 } }.ta =
      some 0x001234 := by decide

/-- R136: a read that times out after all its wait states and samples is in its end period, and one that finds
TRDY high at its last sample has its word. -/
theorem test_last_sample :
    ((enginePeriods (List.replicate 67 (false, 0x7)) reading).current.map fun c => (c.phase, c.taken)) =
      some (.ending true, 0) ∧
    ((enginePeriods (List.replicate 66 (false, 0x7) ++ [(true, 0x9)]) reading).read.map (·.buffer)) =
      some [0x9] := by decide +kernel

theorem witness_AccessRunsInReferencePeriods_held : writing.holds .write ∧ reading.holds .read :=
  ⟨List.cons_ne_nil _ _, Option.some_ne_none _⟩

/-- The target of the current access is SUSPECT. -/
def suspected (s : State) : State := s.setTarget 0 { record .suspect settings0 with timeouts := 1 }

theorem witness_AccessCompletes :
    let l : Lease := { lease .held 1 with outstanding := 1 }
    writing.resetLow = false ∧ writing.current = some (current .write) ∧
    (current .write).phase ≠ .ending true ∧ writing.entry 0 = { generation := 0x01, lease := some l } ∧
    HeldOrParked l ∧ 1 ≤ l.outstanding ∧ (writing.target 0).state.inService = true ∧
    ((suspected writing).target 0).state.inService = true ∧ writing.queue = write1 :: [] ∧
    write1.handle.index = 0 ∧ write1.target = 0 ∧
    reading.entry 0 = { generation := 0x01, lease := some l } ∧ (current .read).holding = .read ∧
    reading.read = some read1 ∧ read1.handle.index = 0 ∧ read1.target = 0 ∧
    read1.buffer.length + ([0x7] : List Word).length = read1.burst.words ∧ reading.arb.bus ≠ .handover ∧
    event7.entry 0 = { generation := 0x01, lease := some { lease .closing 1 with outstanding := 1 } } ∧
    event7.current = some (current .write) ∧ event7.queue = write1 :: [] ∧
    (withLease 0 { lease (.revoking .expired false) 1 with outstanding := 1 } reading).entry 0 =
      { generation := 0x01, lease := some { lease (.revoking .expired false) 1 with outstanding := 1 } } := by
  unfold HeldOrParked; decide

theorem witness_AccessTimesOut :
    let l : Lease := { lease .held 1 with outstanding := 1 }
    writing.resetLow = false ∧ writing.current = some (current .write) ∧
    (current .write).phase ≠ .ending false ∧ writing.entry 0 = { generation := 0x01, lease := some l } ∧
    HeldOrParked l ∧ 1 ≤ l.outstanding ∧ (writing.target 0).state = .ready ∧
    ((suspected writing).target 0).state.inService = true ∧ ((suspected writing).target 0).state ≠ .ready ∧
    writing.queue = write1 :: [] ∧ (current .write).taken + 0 < write1.burst.words ∧
    reading.read = some read1 ∧ (current .read).taken + 0 < read1.burst.words ∧
    reading.arb.bus ≠ .handover ∧
    { reading with arb := { reading.arb with bus := .handover } }.arb.bus = .handover ∧
    (event7.target 0).state = .ready ∧ event7.queue = write1 :: [] ∧
    event7.entry 0 = { generation := 0x01, lease := some { lease .closing 1 with outstanding := 1 } } := by
  unfold HeldOrParked; decide

/-- R136: once the access has timed out, no further word of it is taken. -/
theorem test_no_word_after_a_timeout :
    let w : PostedWrite := { write1 with burst := .w4, data := [0x1, 0x2, 0x3, 0x4] }
    let s := { writing with
      queue := [w], current := some { current .write with taken := 1, phase := .ending true } }
    ((after s (exec (.writeTimeout 1) s)).lastEnd, (after s (exec (.writeTimeout 0) s)).lastEnd.map (·.taken)) =
      (none, some 1) := by decide +kernel

theorem witness_ProbeEndsInReadyOrOffline :
    probing.resetLow = false ∧ probing.current = some (current (.probe 0)) ∧
    (current (.probe 0)).holding = .probe 0 ∧
    probing.probe 0 = some { address := 0xFFC, captured := none } ∧
    (probing.settings 0).probe = some { address := 0xFFC, signature := 0xA5C30F1E } ∧
    (current (.probe 0)).phase ≠ .ending true ∧ (current (.probe 0)).phase ≠ .ending false ∧
    (none : Option Word).getD 0xA5C30F1E = 0xA5C30F1E ∧ (none : Option Word).getD 0xA5C30F1F ≠ 0xA5C30F1E ∧
    (some 0xA5C30F1E : Option Word).getD 0 = 0xA5C30F1E := by decide

theorem witness_LossSettlesTheTarget :
    reading.read = some read1 ∧ read1.target = 0 ∧ read1.deliver = true ∧ reading.stalled = none ∧
    stalledWrite.stalled = some write1 ∧ write1.target = 0 ∧
    writing.lease 0 = some { lease .held 1 with outstanding := 1 } ∧
    (with0out (.revoking .expired false)).lease 0 =
      some { lease (.revoking .expired false) 1 with outstanding := 1 } ∧
    (with0out .closing).lease 0 = some { lease .closing 1 with outstanding := 1 } ∧
    ((closing1 (with0out .closing)).link 1).link = .command
      { tag := 0x31, request := .close (raw 0x00), closing := some { index := 0, found := 1 } } ∧
    (lease .held 1).claim.target ≠ 1 := by decide

/-! ### One step more of the engine, the bus and the resets -/

/-- 11, start-up: the probe of T0 that reads its signature makes it READY. -/
theorem test_probe_matches :
    ((after probing (exec (.probeCompletion 0xA5C30F1E) probing)).target 0).state = .ready := by decide

/-- R144: a probe that times out makes its target OFFLINE. -/
theorem test_probe_times_out :
    ((after probing (exec .probeTimeout probing)).target 0).state = .offline := by decide +kernel

/-- R140: a read completes with its word. -/
theorem test_read_completes :
    (after reading (exec (.readCompletion [0x7]) reading)).answer =
      some { acks := 1, ierr := false, words := [0x7] } := by decide

/-- R143: a read that times out ends with IERR and a zero word. -/
theorem test_read_times_out :
    (after reading (exec (.readTimeout 0) reading)).answer =
      some { acks := 0, ierr := true, words := [0x0] } := by decide

/-- R142, R158: a write that times out at a READY target makes it SUSPECT. -/
theorem test_write_times_out :
    ((after writing (exec (.writeTimeout 0) writing)).target 0).state = .suspect := by decide +kernel

/-- R160: the second timeout revokes the lease with TARGET_LOST, and the write is lost. -/
theorem test_target_lost :
    (after writing (exec (.writeTimeout 0) (suspected writing))).lease 0 =
      some { lease (.revoked .targetLost) 1 with
        marks := { expiryNear := false, revoked := true, writeLost := true } } := by decide +kernel

/-- R118: a write under a SHARED_READ lease is refused. -/
theorem test_write_read_only :
    (((after base (exec (.access 0x40000 (.write .w1 [0x5])) (ready .held .sharedRead))).link 1).fault.fault.map
      (·.reason)) = some .readOnly := by decide

/-- R115: an access with no port on the bus, and no grant before it, enters no fault. -/
theorem test_access_not_owner :
    ((after base (exec (.access 0x40000 (.read .w2)) base)).answer,
      allPorts.all fun p => ((after base (exec (.access 0x40000 (.read .w2)) base)).link p).fault.fault == none) =
      (some { acks := 0, ierr := true, words := [0x0, 0x0] }, true) := by decide

/-- R106: a preemption passes the bus to the port that waits. -/
theorem test_preemption :
    (after base (exec .preemption (timed false true false (contended .yielding)))).arb.bus = .owned 2 := by decide

/-- R50, R51: the boundary that brings the balance to -6 adds EXPIRY_NEAR. -/
theorem test_boundary_warns :
    ((after base (exec (.termBoundary 0) (withLease 0 (dueAt .held (-5)) base))).lease 0).map
      (fun l => (l.balance, l.interval, l.marks.expiryNear)) = some (-6, 0xFA, true) := by decide

/-- R52: the boundary at -8 revokes. -/
theorem test_boundary_revokes :
    ((after base (exec (.termBoundary 0) (withLease 0 (dueAt .held (-8)) base))).lease 0).map (·.state) =
      some (.revoked .expired) := by decide +kernel

/-- R89: a port reset of the owner frees its lease and leaves its write in the engine. -/
theorem test_port_reset :
    let t := after writing (exec (.prstLow 1 false) writing)
    ((t.lease 0).map (·.state), t.queue, t.arb.bus) =
      (some (.revoking .portReset false), [write1], BusState.free) := by decide +kernel

/-- R45: the tick of a lease with two ticks left. -/
theorem test_tick :
    ((after base (exec .tick (withLease 0 { lease .held 1 with interval := 2 } base))).lease 0).map
      (fun l => (l.interval, l.boundaryDue)) = some (1, false) := by decide +kernel

end Sys2Proof.Tests
end

section
/-! What an OPEN answers (02): its operands, the target it finds, when it is grantable, the reason of its
refusal; then the statements about its refusals. -/

namespace Sys2Proof.Machine

/-! ### The operands of an OPEN -/

/-- R20, R26: the bytes that are no class code. -/
theorem classOf_eq_none_iff {b : Byte} : classOf b = none ↔ b ≠ 0x01 ∧ b ≠ 0x02 := by
  simp only [classOf, ite_eq_iff, reduceCtorEq]
  tauto

/-- R26: the bytes that are no WAIT flag. -/
theorem waitFlagOf_eq_none_iff {b : Byte} : waitFlagOf b = none ↔ b ≠ 0x00 ∧ b ≠ 0x01 := by
  simp only [waitFlagOf, ite_eq_iff, reduceCtorEq]
  tauto

/-- R3, R26: the base pages and page counts that make no window. -/
theorem windowOf_eq_none_iff {most : Nat} {base count : BitVec 16} :
    windowOf most base count = none ↔
      count.toNat = 0 ∨ most < count.toNat ∨ 0xFFF < base.toNat + count.toNat - 1 := by
  simp only [windowOf, ite_eq_right_iff, reduceCtorEq, imp_false]
  omega

/-! ### The target of an OPEN -/

/-- R149: a target that is found for a window is in the map. -/
theorem targetOfWindow_configured {s : State} {w : Window} {t : TargetIx}
    (h : s.targetOfWindow w = some t) : (s.target t).state ≠ .unconfigured := by
  intro hu
  have hspan := List.find?_some (p := fun t => (s.span t).any w.inside) h
  simp [State.span, hu] at hspan

/-- R29, R148: a target in the map that is neither PROBING nor OFFLINE is READY or SUSPECT. -/
theorem TargetState.inService_of_ne {x : TargetState} (hu : x ≠ .unconfigured) (hp : x ≠ .probing)
    (ho : x ≠ .offline) : x.inService = true := by
  cases x with
  | unconfigured => exact absurd rfl hu
  | probing => exact absurd rfl hp
  | offline => exact absurd rfl ho
  | ready => rfl
  | suspect => rfl

/-- R28: the quota check, of a window whose target is in the map and not OFFLINE. -/
theorem openTarget_of_found {s : State} {w : Window} {t : TargetIx} (h : s.targetOfWindow w = some t)
    (ho : (s.target t).state ≠ .offline) (p : Port) :
    s.openTarget p w = if s.charge p = s.quota p then .error .quota else .ok t := by
  simp [State.openTarget, h, ho]

/-- R27, R28: checks 2 to 4 do not answer BAD_ARGUMENT. -/
theorem openTarget_ne_badArgument (s : State) (p : Port) (w : Window) :
    s.openTarget p w ≠ .error .badArgument := by
  unfold State.openTarget
  split
  · simp
  · split
    · simp
    · split <;> simp

/-! ### Whether an OPEN is grantable -/

/-- R5: a claim conflicts with an occupying entry. -/
theorem conflictsOccupying_none_iff {s : State} {c : Claim} : s.conflictsOccupying none c = true ↔
    ∃ i l, s.lease i = some l ∧ l.occupying = true ∧ l.claim.conflicts c = true := by
  simp [State.conflictsOccupying, Option.any_eq_true, mem_allEntries]

/-- R29, R31: a claim conflicts with an occupying entry or with a waiting request. -/
theorem conflictsAny_iff {s : State} {c : Claim} : s.conflictsAny c = true ↔
    (∃ i l, s.lease i = some l ∧ l.occupying = true ∧ l.claim.conflicts c = true) ∨
      ∃ w, w ∈ s.waitList ∧ w.claim.conflicts c = true := by
  rw [State.conflictsAny, Bool.or_eq_true, conflictsOccupying_none_iff, List.any_eq_true]

/-- R6: the search finds no entry exactly when none is FREE. -/
theorem freeEntry_eq_none_iff {s : State} : s.freeEntry = none ↔ ∀ i, s.lease i ≠ none := by
  simp [State.freeEntry, mem_allEntries]

/-- R29: an OPEN finds an entry to be granted in exactly when it is grantable. -/
theorem openEntry_eq_none_iff {s : State} {c : Claim} : s.openEntry c = none ↔ NotGrantable s c := by
  unfold State.openEntry NotGrantable
  rw [← freeEntry_eq_none_iff]
  cases (s.target c.target).state.inService <;> cases s.conflictsAny c <;> simp

/-! ### The reason of a refusal -/

theorem openRefusal_conflict {s : State} {c : Claim} (h : s.conflictsAny c = true) :
    s.openRefusal c = .conflict := if_pos h

theorem openRefusal_notReady {s : State} {c : Claim} (h : ¬ s.conflictsAny c = true)
    (hp : (s.target c.target).state = .probing) : s.openRefusal c = .notReady :=
  (if_neg h).trans (if_pos hp)

theorem openRefusal_directoryFull {s : State} {c : Claim} (h : ¬ s.conflictsAny c = true)
    (hp : (s.target c.target).state ≠ .probing) : s.openRefusal c = .directoryFull :=
  (if_neg h).trans (if_neg hp)

/-- R31: no refusal of a request whose target is known is BAD_ARGUMENT. -/
theorem openRefusal_ne_badArgument (s : State) (c : Claim) : s.openRefusal c ≠ .badArgument := by
  unfold State.openRefusal
  split
  · simp
  · split <;> simp

/-! ### What OPEN does, check by check -/

section
variable {s : State} {p : Port} {tag : Byte} {base count : BitVec 16} {cls wait : Byte}
  {limit : BitVec 16}

/-- R29: OPEN acts on the arguments in hand. -/
theorem exec_openLease (hlive : s.resetLow = false)
    (hin : InHandIs s p tag (.openLease base count cls wait limit)) :
    exec (.openLease p) s = .next (takeOpen p base count cls wait limit s) := by
  have hexec : exec (.openLease p) s = execOpen p s := rfl
  rw [hexec, execOpen, whenLive_live hlive, handed_inHand hin]

/-- R26: an argument out of range. -/
theorem takeOpen_badArgument
    (h : windowOf 256 base count = none ∨ classOf cls = none ∨ waitFlagOf wait = none) :
    takeOpen p base count cls wait limit s = respond p .badArgument [] s := by
  unfold takeOpen
  split
  · next hw hc hf => simp [hw, hc, hf] at h
  · rfl

/-- R27, R28: a refusal by the checks of the target and the quota. -/
theorem takeOpen_refused {w : Window} {c : LeaseClass} {f : Bool} {st : Status}
    (hw : windowOf 256 base count = some w) (hc : classOf cls = some c) (hf : waitFlagOf wait = some f)
    (ht : s.openTarget p w = .error st) :
    takeOpen p base count cls wait limit s = respond p st [] s := by
  simp [takeOpen, hw, hc, hf, ht]

/-- R29: a request that passes the checks of the target and the quota. -/
theorem takeOpen_decides {w : Window} {c : LeaseClass} {f : Bool} {t : TargetIx}
    (hw : windowOf 256 base count = some w) (hc : classOf cls = some c) (hf : waitFlagOf wait = some f)
    (ht : s.openTarget p w = .ok t) :
    takeOpen p base count cls wait limit s =
      decideOpen p { target := t, window := w, cls := c } f limit s := by
  simp [takeOpen, hw, hc, hf, ht]

/-- R28: a request that finds its target, at the quota. -/
theorem takeOpen_quota {c : Claim} {f : Bool} (h : OpenFinds s base count cls wait c f)
    (hq : s.charge p = s.quota p) :
    takeOpen p base count cls wait limit s = respond p .quota [] s := by
  obtain ⟨hw, hc, hf, ht, ho⟩ := h
  exact takeOpen_refused hw hc hf ((openTarget_of_found ht ho p).trans (if_pos hq))

/-- R28: a request that finds its target, below the quota. -/
theorem takeOpen_found {c : Claim} {f : Bool} (h : OpenFinds s base count cls wait c f)
    (hq : s.charge p ≠ s.quota p) :
    takeOpen p base count cls wait limit s = decideOpen p c f limit s := by
  obtain ⟨hw, hc, hf, ht, ho⟩ := h
  exact takeOpen_decides hw hc hf ((openTarget_of_found ht ho p).trans (if_neg hq))

/-- R31: a request that is not grantable and does not ask to wait. -/
theorem decideOpen_notWaiting {c : Claim} (h : NotGrantable s c) :
    decideOpen p c false limit s = respond p (s.openRefusal c) [] s := by
  simp [decideOpen, openEntry_eq_none_iff.mpr h]

/-- R30: the wait limit is read only of a request that asks to wait. -/
theorem decideOpen_limit_ignored (p : Port) (c : Claim) (limit limit' : BitVec 16) (s : State) :
    decideOpen p c false limit s = decideOpen p c false limit' s := by
  unfold decideOpen
  split <;> rfl

/-- R26: a wait limit sent with WAIT clear is ignored. -/
theorem takeOpen_limit_ignored (p : Port) (base count : BitVec 16) (cls : Byte)
    (limit limit' : BitVec 16) (s : State) :
    takeOpen p base count cls 0x00 limit s = takeOpen p base count cls 0x00 limit' s := by
  have hf : waitFlagOf 0x00 = some false := rfl
  by_cases hbad : windowOf 256 base count = none ∨ classOf cls = none
  · have hbad' : windowOf 256 base count = none ∨ classOf cls = none ∨ waitFlagOf 0x00 = none := by tauto
    rw [takeOpen_badArgument hbad', takeOpen_badArgument hbad']
  · rw [not_or] at hbad
    obtain ⟨w, hw⟩ := Option.ne_none_iff_exists'.mp hbad.1
    obtain ⟨c, hc⟩ := Option.ne_none_iff_exists'.mp hbad.2
    cases ht : s.openTarget p w with
    | error st => rw [takeOpen_refused hw hc hf ht, takeOpen_refused hw hc hf ht]
    | ok t =>
      rw [takeOpen_decides hw hc hf ht, takeOpen_decides hw hc hf ht]
      exact decideOpen_limit_ignored p _ limit limit' s

/-- R170: an OPEN that its block answers with this status and otherwise leaves alone. -/
theorem exec_openLease_refused {st : Status} (hlive : s.resetLow = false)
    (hin : InHandIs s p tag (.openLease base count cls wait limit))
    (h : takeOpen p base count cls wait limit s = respond p st [] s) :
    ∃ t, exec (.openLease p) s = .next t ∧ Answered p tag st [] s t ∧ KeepsAllBut [.links] s t :=
  ⟨respond p st [] s, by rw [exec_openLease hlive hin, h], respond_answered hin st [],
    respond_keeps p st [] s⟩

end

/-! ### An OPEN in range is not answered BAD_ARGUMENT -/

/-- The step from `s` to `t` ends with a response of port `p`, other than BAD_ARGUMENT, to the command that
was in hand there. -/
def RespondsInRange (p : Port) (s t : State) : Prop :=
  ∃ st res u, st ≠ .badArgument ∧ (u.link p).link = (s.link p).link ∧ t = respond p st res u

theorem RespondsInRange.of_respond {st : Status} (h : st ≠ .badArgument) (p : Port) (res : List Byte)
    (s : State) : RespondsInRange p s (respond p st res s) := ⟨st, res, s, h, rfl, rfl⟩

/-- R170: the response frame of such a step is not BAD_ARGUMENT. -/
theorem RespondsInRange.link_ne {p : Port} {s t : State} {tag : Byte} {r : Request}
    (h : RespondsInRange p s t) (hin : InHandIs s p tag r) (res : List Byte) :
    (t.link p).link ≠ .responseReady { tag := tag, status := .badArgument, results := res } := by
  obtain ⟨st, res', u, hst, hu, rfl⟩ := h
  obtain ⟨hlink, -⟩ := respond_answered (hu.trans hin) st res'
  rw [hlink]
  simp [hst]

theorem queueOpen_respondsInRange (p : Port) (c : Claim) (limit : BitVec 16) (s : State) :
    RespondsInRange p s (queueOpen p c limit s) := by
  unfold queueOpen
  split
  · exact .of_respond (by simp) p [] s
  · next k _ =>
    split
    · exact .of_respond (by simp) p [] s
    · refine ⟨.queued, _, _, by simp, ?_, rfl⟩
      have hticket : ((s.setTicket p k .waiting).link p).link = (s.link p).link := by simp
      exact hticket

theorem decideOpen_respondsInRange (p : Port) (c : Claim) (f : Bool) (limit : BitVec 16) (s : State) :
    RespondsInRange p s (decideOpen p c f limit s) := by
  unfold decideOpen
  split
  · next i _ => exact ⟨.ok, _, grantLease i p c s, by simp, rfl, rfl⟩
  · split
    · exact queueOpen_respondsInRange p c limit s
    · exact .of_respond (openRefusal_ne_badArgument s c) p [] s

/-- R26: with its arguments in range an OPEN is answered by a later check. -/
theorem takeOpen_respondsInRange {base count : BitVec 16} {cls wait : Byte} {w : Window}
    {c : LeaseClass} {f : Bool} (hw : windowOf 256 base count = some w) (hc : classOf cls = some c)
    (hf : waitFlagOf wait = some f) (p : Port) (limit : BitVec 16) (s : State) :
    RespondsInRange p s (takeOpen p base count cls wait limit s) := by
  cases ht : s.openTarget p w with
  | error st =>
    have hst : st ≠ .badArgument := fun e => openTarget_ne_badArgument s p w (e ▸ ht)
    rw [takeOpen_refused hw hc hf ht]
    exact .of_respond hst p [] s
  | ok t =>
    rw [takeOpen_decides hw hc hf ht]
    exact decideOpen_respondsInRange p _ f limit s

/-! ### The statements -/

/-- Settles O23: the three decoders of an OPEN's arguments fail exactly out of range, and every later check
answers with another status. -/
theorem openOutOfRangeIsBadArgument : Obligations.OpenOutOfRangeIsBadArgument := by
  intro s p tag base count cls wait limit hlive hin outOfRange
  have hnone : outOfRange ↔
      windowOf 256 base count = none ∨ classOf cls = none ∨ waitFlagOf wait = none := by
    rw [windowOf_eq_none_iff, classOf_eq_none_iff, waitFlagOf_eq_none_iff, or_assoc, or_assoc]
  refine ⟨fun hout => ?_, fun hrange t ht res => ?_,
    fun limit' => takeOpen_limit_ignored p base count cls limit limit' s⟩
  · exact exec_openLease_refused hlive hin (takeOpen_badArgument (hnone.mp hout))
  · rw [hnone, not_or, not_or] at hrange
    obtain ⟨hwin, hcls, hwait⟩ := hrange
    obtain ⟨w, hw⟩ := Option.ne_none_iff_exists'.mp hwin
    obtain ⟨c, hc⟩ := Option.ne_none_iff_exists'.mp hcls
    obtain ⟨f, hf⟩ := Option.ne_none_iff_exists'.mp hwait
    rw [exec_openLease hlive hin] at ht
    obtain rfl := Host.Outcome.next.inj ht
    exact (takeOpen_respondsInRange hw hc hf p limit s).link_ne hin res

/-- Settles O25: the two counts are the port's charge (R17), which the quota check compares before the WAIT
flag is read. -/
theorem openAtQuotaIsRefused : Obligations.OpenAtQuotaIsRefused := by
  intro s p tag base count cls wait limit c f hlive hin hfinds hcounts
  have hcharge : s.charge p = s.quota p := hcounts
  exact exec_openLease_refused hlive hin (takeOpen_quota hfinds hcharge)

/-- Settles O28: the refusal's three reasons in their order; without the first two the target is in the map
and in service, so that only a full directory is left to make the request not grantable. -/
theorem openNotWaitingIsRefused : Obligations.OpenNotWaitingIsRefused := by
  intro s p tag base count cls wait limit c hlive hin hfinds hquota hnot conflict refused
  have hconflict : s.conflictsAny c = true ↔ conflict := conflictsAny_iff
  have hrefused : ∀ st, s.openRefusal c = st → refused st := fun st hst =>
    exec_openLease_refused hlive hin <| by
      rw [takeOpen_found hfinds hquota, decideOpen_notWaiting hnot, hst]
  rw [← hconflict]
  refine ⟨fun hc => hrefused _ (openRefusal_conflict hc),
    fun hc hp => hrefused _ (openRefusal_notReady hc hp), fun hc hp => ?_⟩
  obtain ⟨-, -, -, ht, ho⟩ := hfinds
  have hservice : (s.target c.target).state.inService = true :=
    TargetState.inService_of_ne (targetOfWindow_configured ht) hp ho
  have hfull : ∀ i, s.lease i ≠ none := by
    rcases hnot with hdown | hc' | hfull
    · simp [hservice] at hdown
    · exact absurd hc' hc
    · exact hfull
  exact ⟨hrefused _ (openRefusal_directoryFull hc hp), hservice, hfull⟩

end Sys2Proof.Machine
end

section
/-! What a RENEW answers (03): the checks of a command on a valid handle of its own port, and the comparison of
the sum with +8; then the statement about the refusal. -/

namespace Sys2Proof.Machine

/-! ### A command of the holder on a valid handle -/

/-- R8: a byte that spells an index in range is read as that index. -/
theorem indexOf_eq_some {n : Nat} {b : Byte} {i : Fin n} (h : b.toNat = i.val) :
    indexOf n b = some i := by
  simp [indexOf, h]

section
variable {s : State} {p : Port} {cmd : HandleCommand} {h : RawHandle} {i : EntryIx} {l : Lease}
  {act : EntryIx → Lease → State → State}

/-- R8 to R10: in a state that takes the command, the command acts on the entry it names. -/
theorem withHandle_taken (hnames : Names s h i l) (hholder : l.holder = p)
    (hcheck : cmd.check l.state = .taken) : withHandle p cmd true h act s = act i l s := by
  obtain ⟨hindex, hentry⟩ := hnames
  simp [withHandle, indexOf_eq_some hindex, State.lease, hentry, hholder, hcheck]

/-- R10: in every other state the command only answers WRONG_STATE or TOO_LATE. -/
theorem withHandle_notTaken (hnames : Names s h i l) (hholder : l.holder = p)
    (hcheck : cmd.check l.state ≠ .taken) :
    ∃ st, (st = .wrongState ∨ st = .tooLate) ∧
      withHandle p cmd true h act s = respond p st l.state.refusalBytes s := by
  obtain ⟨hindex, hentry⟩ := hnames
  cases hc : cmd.check l.state with
  | taken => exact absurd hc hcheck
  | wrongState =>
    exact ⟨.wrongState, .inl rfl, by
      simp [withHandle, indexOf_eq_some hindex, State.lease, hentry, hholder, hc]⟩
  | tooLate =>
    exact ⟨.tooLate, .inr rfl, by
      simp [withHandle, indexOf_eq_some hindex, State.lease, hentry, hholder, hc]⟩

end

/-- R170: a response frame shows the status and the results that its block answered with. -/
theorem respond_link_eq_iff {s : State} {p : Port} {tag : Byte} {r : Request} (hin : InHandIs s p tag r)
    {st st' : Status} {res res' : List Byte} :
    ((respond p st res s).link p).link = .responseReady { tag := tag, status := st', results := res' } ↔
      st = st' ∧ res = res' := by
  obtain ⟨hlink, -⟩ := respond_answered hin st res
  simp [hlink]

/-! ### RENEW -/

/-- R10: RENEW is taken in HELD and in PARKED. -/
theorem check_renew_eq_taken_iff {st : LeaseState} :
    HandleCommand.check .renew st = .taken ↔ st = .held ∨ st = .parked := by
  cases st <;> simp [HandleCommand.check]

/-- R55: RENEW acts on the handle and the count in hand. -/
theorem exec_renew {s : State} {p : Port} {tag : Byte} {h : RawHandle} {n : Byte}
    (hlive : s.resetLow = false) (hin : InHandIs s p tag (.renew h n)) (hlow : 1 ≤ n.toNat)
    (hhigh : n.toNat ≤ 8) :
    exec (.renew p) s = .next (withHandle p .renew true h (actRenew p n.toNat) s) := by
  have hexec : exec (.renew p) s = execRenew p s := rfl
  have hrange : decide (1 ≤ n.toNat ∧ n.toNat ≤ 8) = true := decide_eq_true ⟨hlow, hhigh⟩
  rw [hexec, execRenew, whenLive_live hlive, handed_inHand hin]
  simp only [hrange]

/-- R56: a sum above +8 is answered with the balance as it stands. -/
theorem actRenew_creditFull {n : Nat} {l : Lease} (h : 8 < l.balance + n) (p : Port) (i : EntryIx)
    (s : State) : actRenew p n i l s = respond p .creditFull (renewBytes l.balance l) s :=
  if_neg (not_le.mpr h)

/-! ### The statement -/

/-- Settles O34: in HELD and PARKED the RENEW is taken, and a sum above +8 is only answered; in every other
state R10's table gives another status. -/
theorem renewAboveCreditIsRefused : Obligations.RenewAboveCreditIsRefused := by
  intro s p tag h n i l hlive hin hnames hholder hlow hhigh
  have hexec := exec_renew hlive hin hlow hhigh
  refine ⟨fun hstate habove => ?_, fun t res ht hfull => ?_⟩
  · have hact := withHandle_taken (act := actRenew p n.toNat) hnames hholder
      (check_renew_eq_taken_iff.mpr hstate)
    rw [hact, actRenew_creditFull habove] at hexec
    exact ⟨_, hexec, respond_answered hin .creditFull _, respond_keeps p .creditFull _ s⟩
  · by_contra hstate
    obtain ⟨st, hst, hanswer⟩ := withHandle_notTaken (act := actRenew p n.toNat) hnames hholder
      (mt check_renew_eq_taken_iff.mp hstate)
    rw [hexec, hanswer] at ht
    obtain rfl := Host.Outcome.next.inj ht
    obtain ⟨rfl, -⟩ := (respond_link_eq_iff hin).mp hfull
    simp at hst

end Sys2Proof.Machine
end

section
/-! What one step can do, said once: every step but POWER_ON is a run of the moves below, each of them one
change that keeps the laws. The laws that hold along every run are proved of the moves. -/

namespace Sys2Proof.Machine

/-! ### Parts and frames -/

section
variable {may : List Part} {s t : State}

theorem KeepsAllBut.resetLow (h : KeepsAllBut may s t) (hp : .resetLow ∉ may := by decide) :
    t.resetLow = s.resetLow := h .resetLow hp
theorem KeepsAllBut.entries (h : KeepsAllBut may s t) (hp : .directory ∉ may := by decide) :
    t.entries = s.entries := h .directory hp
theorem KeepsAllBut.quotas (h : KeepsAllBut may s t) (hp : .quotas ∉ may := by decide) :
    t.quotas = s.quotas := h .quotas hp
theorem KeepsAllBut.waitList (h : KeepsAllBut may s t) (hp : .waitList ∉ may := by decide) :
    t.waitList = s.waitList := h .waitList hp
theorem KeepsAllBut.links (h : KeepsAllBut may s t) (hp : .links ∉ may := by decide) :
    t.links = s.links := h .links hp
theorem KeepsAllBut.clock (h : KeepsAllBut may s t) (hp : .clock ∉ may := by decide) :
    t.clock = s.clock := h .clock hp
theorem KeepsAllBut.arb (h : KeepsAllBut may s t) (hp : .arbiter ∉ may := by decide) :
    t.arb = s.arb := h .arbiter hp
theorem KeepsAllBut.stalled (h : KeepsAllBut may s t) (hp : .stalled ∉ may := by decide) :
    t.stalled = s.stalled := h .stalled hp
theorem KeepsAllBut.answer (h : KeepsAllBut may s t) (hp : .answer ∉ may := by decide) :
    t.answer = s.answer := h .answer hp
theorem KeepsAllBut.queue (h : KeepsAllBut may s t) (hp : .queue ∉ may := by decide) :
    t.queue = s.queue := h .queue hp
theorem KeepsAllBut.read (h : KeepsAllBut may s t) (hp : .read ∉ may := by decide) :
    t.read = s.read := h .read hp
theorem KeepsAllBut.probes (h : KeepsAllBut may s t) (hp : .probes ∉ may := by decide) :
    t.probes = s.probes := h .probes hp
theorem KeepsAllBut.current (h : KeepsAllBut may s t) (hp : .current ∉ may := by decide) :
    t.current = s.current := h .current hp
theorem KeepsAllBut.targets (h : KeepsAllBut may s t) (hp : .targets ∉ may := by decide) :
    t.targets = s.targets := h .targets hp
theorem KeepsAllBut.pending (h : KeepsAllBut may s t) (hp : .pending ∉ may := by decide) :
    t.pending = s.pending := h .pending hp

theorem KeepsAllBut.entry (h : KeepsAllBut may s t) (i : EntryIx) (hp : .directory ∉ may := by decide) :
    t.entry i = s.entry i := by simp only [State.entry, h.entries hp]
theorem KeepsAllBut.lease (h : KeepsAllBut may s t) (i : EntryIx) (hp : .directory ∉ may := by decide) :
    t.lease i = s.lease i := by simp only [State.lease, h.entry i hp]
theorem KeepsAllBut.link (h : KeepsAllBut may s t) (p : Port) (hp : .links ∉ may := by decide) :
    t.link p = s.link p := by simp only [State.link, h.links hp]
theorem KeepsAllBut.ticket (h : KeepsAllBut may s t) (p : Port) (k : Slot)
    (hp : .links ∉ may := by decide) : t.ticket p k = s.ticket p k := by
  simp only [State.ticket, h.link p hp]
theorem KeepsAllBut.quota (h : KeepsAllBut may s t) (p : Port) (hp : .quotas ∉ may := by decide) :
    t.quota p = s.quota p := by simp only [State.quota, h.quotas hp]
theorem KeepsAllBut.requesting (h : KeepsAllBut may s t) (p : Port)
    (hp : .arbiter ∉ may := by decide) : t.requesting p = s.requesting p := by
  simp only [State.requesting, h.arb hp]
theorem KeepsAllBut.requester (h : KeepsAllBut may s t) (p : Port)
    (hp : .arbiter ∉ may := by decide) : t.requester p = s.requester p := by
  simp only [State.requester, h.arb hp]
theorem KeepsAllBut.tgr (h : KeepsAllBut may s t) (p : Port) (hp : .arbiter ∉ may := by decide) :
    t.tgr p = s.tgr p := by simp only [State.tgr, h.requester p hp]
theorem KeepsAllBut.target (h : KeepsAllBut may s t) (v : TargetIx)
    (hp : .targets ∉ may := by decide) : t.target v = s.target v := by
  simp only [State.target, h.targets hp]
theorem KeepsAllBut.span (h : KeepsAllBut may s t) (v : TargetIx)
    (hp : .targets ∉ may := by decide) : t.span v = s.span v := by
  simp only [State.span, h.target v hp]
theorem KeepsAllBut.settings (h : KeepsAllBut may s t) (v : TargetIx)
    (hp : .targets ∉ may := by decide) : t.settings v = s.settings v := by
  simp only [State.settings, h.target v hp]
theorem KeepsAllBut.probe (h : KeepsAllBut may s t) (v : TargetIx)
    (hp : .probes ∉ may := by decide) : t.probe v = s.probe v := by
  simp only [State.probe, h.probes hp]
theorem KeepsAllBut.waitersOf (h : KeepsAllBut may s t) (p : Port) (k : Slot)
    (hp : .waitList ∉ may := by decide) : t.waitersOf p k = s.waitersOf p k := by
  simp only [State.waitersOf, h.waitList hp]

end

section
variable (s : State)

theorem keeps_entries (v : Vector Entry 32) : KeepsAllBut [.directory] s { s with entries := v } :=
  fun x hx => by cases x <;> simp_all [Part.same]
theorem keeps_quotas (v : Vector Nat 6) : KeepsAllBut [.quotas] s { s with quotas := v } :=
  fun x hx => by cases x <;> simp_all [Part.same]
theorem keeps_waitList (v : List Waiter) : KeepsAllBut [.waitList] s { s with waitList := v } :=
  fun x hx => by cases x <;> simp_all [Part.same]
theorem keeps_clock (v : Clock) : KeepsAllBut [.clock] s { s with clock := v } :=
  fun x hx => by cases x <;> simp_all [Part.same]
theorem keeps_arb (v : Arbiter) : KeepsAllBut [.arbiter] s { s with arb := v } :=
  fun x hx => by cases x <;> simp_all [Part.same]
theorem keeps_stalled (v : Option PostedWrite) : KeepsAllBut [.stalled] s { s with stalled := v } :=
  fun x hx => by cases x <;> simp_all [Part.same]
theorem keeps_queue (v : List PostedWrite) : KeepsAllBut [.queue] s { s with queue := v } :=
  fun x hx => by cases x <;> simp_all [Part.same]
theorem keeps_read (v : Option PendingRead) : KeepsAllBut [.read] s { s with read := v } :=
  fun x hx => by cases x <;> simp_all [Part.same]
theorem keeps_current (v : Option Current) : KeepsAllBut [.current] s { s with current := v } :=
  fun x hx => by cases x <;> simp_all [Part.same]
theorem keeps_periods (v : Nat) : KeepsAllBut [.periods] s { s with periods := v } :=
  fun x hx => by cases x <;> simp_all [Part.same]
theorem keeps_pending (v : List Instr) : KeepsAllBut [.pending] s { s with pending := v } :=
  fun x hx => by cases x <;> simp_all [Part.same]
theorem keeps_resetLow (v : Bool) : KeepsAllBut [.resetLow] s { s with resetLow := v } :=
  fun x hx => by cases x <;> simp_all [Part.same]

end

/-! ### The changes that a lease goes through -/

/-- No write that stands under a live grant of the bus is stalled under entry `i` while it is HELD. -/
def Unstalled (s : State) (i : EntryIx) (l : Lease) : Prop :=
  NotStalledUnder s i ∨ l.state ≠ .held ∨ s.tgr l.holder = false

/-- R74, R77: the end of its drain does not free the lease. -/
def Lease.lasting (l : Lease) : Bool :=
  match l.state with
  | .closing => false
  | .revoking r b => !(decide (r = .portReset) || b)
  | _ => true

/-- A change of a lease within its grant: holder, claim and count stay, a tombstone stays one, only a lease
with nothing outstanding becomes one, and only a lease with accesses outstanding begins to drain. -/
structure Lease.Edits (term : Nat) (l m : Lease) : Prop where
  holder : m.holder = l.holder
  claim : m.claim = l.claim
  outstanding : m.outstanding = l.outstanding
  occupying : m.occupying = true → l.occupying = true
  tombstone : m.occupying = false → l.occupying = false ∨ l.outstanding = 0
  draining : m.draining = true → l.draining = true ∨ l.outstanding ≠ 0
  closing : l.state = .closing → m.state = .closing
  balance : -8 ≤ l.balance → l.balance ≤ 8 → -8 ≤ m.balance ∧ m.balance ≤ 8
  interval : m.interval ≤ l.interval ∨ m.interval ≤ term

/-- Where a move stands in its step: `before` and `after` the step's first scan, in a change of what the
engine holds, or in an OPEN. -/
inductive Stage where
  | before | after | engine | opening

/-- A change of an entry other than a grant. Only before the first scan is a lease freed that is not
draining, or one that would last made one that does not. -/
def Edited (g : Stage) (s : State) (i : EntryIx) : Option Lease → Option Lease → Prop
  | none, m => m = none
  | some l, none => g = .before ∧ l.state ≠ .closing ∧ (l.outstanding = 0 ∨ l.occupying = false) ∧
      Unstalled s i l
  | some l, some m => l.Edits (s.settings l.claim.target).term m ∧
      (g = .before ∨ (l.lasting = true → m.lasting = true)) ∧
      ((l.state = .held → m.state = .held) ∨ Unstalled s i l)

/-- R45, R46: the timebase settings of the divider are in range. -/
def Clock.InRange (c : Clock) : Prop := c.k ≤ 10 ∧ ∀ k, c.pendingK = some k → k ≤ 10

/-- R110, R111: the settings of the arbiter for a port are in range. -/
def Requesting.InRange (r : Requesting) : Prop := r.hold ≤ 4095 ∧ 1 ≤ r.grace ∧ r.grace ≤ 255

/-- A change of a port link unit that leaves its tickets alone and begins no wait of a CLOSE (R73). -/
def LinkUnit.Quiet (u v : LinkUnit) : Prop :=
  v.tickets = u.tickets ∧
    ∀ tag r c, v.link = .command { tag := tag, request := r, closing := some c } → v.link = u.link

/-- R148 to R153: the record that a supervisor command gives to target `t`: with settings exactly in the map,
in range, and apart from the other spans. -/
structure NewRecord (s : State) (t : TargetIx) (r : TargetRecord) : Prop where
  mapped : r.settings = none ↔ r.state = .unconfigured
  inRange : ∀ x, r.settings = some x → x.InRange
  apart : ∀ x, r.settings = some x → s.overlapping t x.span = none
  timeouts : r.timeouts ≤ 2

/-- R116: what the checker answers to an access of the owner. -/
structure Passes (s : State) (p : Port) (d : Dir) (h : Handle) (t : TargetIx) : Prop where
  owned : s.arb.bus = .owned p
  noneInHand : s.inHand = false
  passes : ∃ page, s.checkAccess p page d = .pass h t

/-- R141, R144: the state just after a probe of target `t` has left the engine, before the loss step. -/
structure ProbeLeft (s : State) (t : TargetIx) (u : State) : Prop where
  keeps : KeepsAllBut [.probes, .current, .lastEnd, .targets] s u
  filled : s.probe t ≠ none
  probe : u.probe t = none
  probes : ∀ v, v ≠ t → u.probe v = s.probe v
  current : u.current = none
  state : (u.target t).state = (s.target t).state
  settings : (u.target t).settings = (s.target t).settings
  timeouts : (u.target t).timeouts = (s.target t).timeouts
  targets : TargetsBut t s u

/-! ### The moves -/

/-- One move of a step at stage `g`. -/
inductive Move : Stage → State → State → Prop where
  /-- A record of the model or the RESET line changes. -/
  | aside {g s t} (h : KeepsAllBut [.resetLow, .answer, .lastEnd, .periods] s t) : Move g s t
  | clock {g s t} (h : KeepsAllBut [.clock] s t) (hk : s.clock.InRange → t.clock.InRange) : Move g s t
  | link {g s} (p : Port) (u : LinkUnit) (h : (s.link p).Quiet u) : Move g s (s.setLink p u)
  /-- R18: a quota is set. -/
  | quota {g s} (p : Port) (n : Nat) (h : s.charge p ≤ n) (hlow : 1 ≤ n) (hhigh : n ≤ 32) :
      Move g s { s with quotas := s.quotas.set p n }
  | directory {g s t} (h : KeepsAllBut [.directory] s t)
      (hg : ∀ i, (t.entry i).generation = (s.entry i).generation)
      (he : ∀ i, Edited g s i (s.lease i) (t.lease i)) : Move g s t
  /-- R67, R71: a PARKED lease gets another claim. -/
  | reshape {s} (i : EntryIx) (l : Lease) (c : Claim) (hl : s.lease i = some l) (hs : l.state = .parked)
      (ht : c.target = l.claim.target) (hw : c.window.InRange 256)
      (hspan : (s.span c.target).any c.window.inside = true)
      (hc : s.conflictsOccupying (some i) c = false) :
      Move .before s (s.setLease i (some { l with claim := c }))
  /-- R74, R77: a drain ends. -/
  | drain {g s} (i : EntryIx) (l : Lease) (hl : s.lease i = some l) (hd : l.draining = true)
      (ho : l.outstanding = 0) : Move g s (endDrain i l 0x00 s)
  /-- R73: a CLOSE stays in hand. -/
  | holdClose {g s} (p : Port) (i : EntryIx) (n : Nat) (l : Lease) (hl : s.lease i = some l)
      (hs : l.state = .closing) (hp : l.holder = p) : Move g s (holdClose p i n s)
  /-- R29: an OPEN is granted. -/
  | openGrant {s} (p : Port) (c : Claim) (i : EntryIx) (ho : s.openEntry c = some i)
      (hq : s.charge p ≠ s.quota p) (ht : s.targetOfWindow c.window = some c.target)
      (hw : c.window.InRange 256) : Move .opening s (grantLease i p c s)
  /-- R30: an OPEN joins the wait list. -/
  | enqueue {s} (p : Port) (k : Slot) (c : Claim) (r : Option Nat) (hslot : s.ticket p k = .unused)
      (hlen : s.waitList.length < Config.waitListDepth) (hq : s.charge p ≠ s.quota p)
      (ht : s.targetOfWindow c.window = some c.target) (hw : c.window.InRange 256)
      (hr : ∀ n, r = some n → 1 ≤ n ∧ n ≤ 65535) :
      Move .opening s { s.setTicket p k .waiting with
        waitList := s.waitList ++ [{ port := p, slot := k, claim := c, remaining := r, due := false }] }
  | scan {g s} (hg : g = .after ∨ g = .engine) : Move g s (scan s)
  /-- R42, R43: waiting requests are refused. -/
  | refuse {g s} (f : Waiter → Bool) (r : RefuseReason) : Move g s (refuseWaiters f r s)
  /-- R37, R39: a ticket's request leaves the list. -/
  | leave {g s} (p : Port) (k : Slot) (x : Ticket) (h : x ≠ .waiting) :
      Move g s ((dropWaiter p k s).setTicket p k x)
  /-- R39, R41: a settled ticket is freed. -/
  | freeTicket {g s} (p : Port) (k : Slot) (h : s.ticket p k ≠ .waiting) :
      Move g s (s.setTicket p k .unused)
  | waitTick {g s} : Move g s { s with waitList := s.waitList.map Waiter.ticked }
  /-- R44, R90: a port reset reaches the wait list and the port link unit. -/
  | clearPort {g s} (p : Port) : Move g s ((removeWaiters p s).setLink p (s.link p).portReset)
  /-- A change of the arbiter that moves no grant and lets nobody wait. -/
  | arbiter {g s t} (h : KeepsAllBut [.arbiter] s t) (hbus : t.arb.bus = s.arb.bus)
      (htgr : ∀ p, t.tgr p = s.tgr p)
      (hwait : ∀ p, t.requester p = .waiting → s.requester p = .waiting)
      (hset : ∀ p, (s.requesting p).InRange → (t.requesting p).InRange) : Move g s t
  /-- R97, R98: a request on a FREE bus. -/
  | rise {g s} (p : Port) (hi : s.requester p = .idle) (hb : s.arb.bus = .free) :
      Move g s (arbitrate (s.setRequester p .waiting))
  /-- R97: a request on a bus that is not FREE. -/
  | wait {g s} (p : Port) (hi : s.requester p = .idle) (hb : s.arb.bus ≠ .free) :
      Move g s (s.setRequester p .waiting)
  /-- R101, R106, R112: the owner loses the grant. -/
  | fall {g s} (p : Port) (r : Requester) (hs : s.stalled = none) (hp : s.tgr p = true)
      (hr : r = .idle ∨ r = .preempted) : Move g s (loseGrant p r s)
  | unstall {g s} : Move g s { s with stalled := none }
  /-- R121: a write stalls. -/
  | stall {g s} (w : PostedWrite) (h : Passes s w.port .write w.handle w.target) :
      Move g s { s with stalled := some w }
  /-- R119, R120: a write is admitted. -/
  | post {s} (w : PostedWrite) (h : Passes s w.port .write w.handle w.target)
      (hq : s.queue.length < Config.queueDepth) : Move .engine s (admitWrite w s)
  | admitStalled {s} : Move .engine s (admitStalled s)
  /-- R123: a read becomes the pending read. -/
  | takeRead {s} (x : PendingRead) (h : Passes s x.port .read x.handle x.target)
      (hx : x.deliver = true) : Move .engine s { countAdmission x.handle.index s with read := some x }
  | start {s} : Move .engine s (startNext s)
  /-- R135: the current access goes on. -/
  | phase {g s} (c c' : Current) (hc : s.current = some c) (hh : c'.holding = c.holding) :
      Move g s { s with current := some c' }
  | capture {g s} (h : Holding) (w : Word) : Move g s (capture h w s)
  /-- R138: the write at the queue's head leaves the engine. -/
  | finishWrite {s} (w : PostedWrite) (rest : List PostedWrite) (lost : Bool) (e : Option AccessEnd)
      (hq : s.queue = w :: rest) : Move .engine s
        (finishAccess w.handle lost { s with queue := rest, current := none, lastEnd := e }).1
  /-- R138: the pending read leaves the engine. -/
  | finishRead {s} (x : PendingRead) (late : Bool) (words : List Word) (e : Option AccessEnd)
      (hx : s.read = some x) : Move .engine s (readEnded (returnRead x late words
        (finishAccess x.handle false { s with read := none, current := none, lastEnd := e }).1))
  /-- R158, R159: a target's health is reported. -/
  | health {g s} (t : TargetIx) (r : TargetRecord) (hset : r.settings = (s.target t).settings)
      (hstate : r.state = (s.target t).state ∨
        ((s.target t).state.inService = true ∧ r.state.inService = true))
      (hn : r.timeouts ≤ 2) : Move g s (s.setTarget t r)
  /-- R158, R160: a target in service is lost. -/
  | lose {s} (t : TargetIx) (f : LastFault) (h : (s.target t).state.inService = true)
      (hc : s.current = none) : Move .engine s (loseTarget t f s)
  /-- R155: a probe has found its signature. -/
  | probeReady {s u} (t : TargetIx) (h : ProbeLeft s t u) (w : Word) :
      Move .engine s (u.setTarget t { u.target t with probeResult := some w, state := .ready })
  /-- R144, R155, R160: a probe has failed. -/
  | probeLost {s u} (t : TargetIx) (f : LastFault) (h : ProbeLeft s t u) : Move .engine s (loseTarget t f u)
  /-- R153, R157: a target that is not busy gets another record, and its waiters are refused. -/
  | configure {g s} (t : TargetIx) (r : TargetRecord) (o : Option Probe) (hb : s.targetBusy t = false)
      (hr : NewRecord s t r)
      (ho : (o = s.probe t ∧ r.state ≠ .probing) ∨ (g = .engine ∧ o.isSome = true ∧ r.state = .probing)) :
      Move g s ((refuseWaiters (fun w => w.claim.target == t) .targetDown (s.setTarget t r)).setProbe t o)

/-- A run of moves at one stage. -/
abbrev Moves (g : Stage) : State → State → Prop := Relation.ReflTransGen (Move g)

/-- What the engine holds changes, and the next access starts (R134, R138). -/
def EngineRun (s t : State) : Prop := ∃ u, Moves .engine s u ∧ t = startNext u

/-- Moves from a step's first scan on, with one change of what the engine holds among them or none. -/
def Ran (s t : State) : Prop :=
  Moves .after s t ∨ ∃ u v, Moves .after s u ∧ EngineRun u v ∧ Moves .after v t

/-- What a step other than a power-on or an OPEN does: moves up to its first scan and moves from there on. -/
def Stepped (s t : State) : Prop := ∃ u, Moves .before s u ∧ Ran u t

theorem Moves.one {g : Stage} {s t : State} (h : Move g s t) : Moves g s t := .single h

theorem EngineRun.ran {s t : State} (h : EngineRun s t) : Ran s t := .inr ⟨s, t, .refl, h, .refl⟩

theorem Ran.after {s t u : State} (h : Ran s t) (h' : Moves .after t u) : Ran s u := by
  rcases h with h | ⟨v, w, hv, hr, hw⟩
  · exact .inl (h.trans h')
  · exact .inr ⟨v, w, hv, hr, hw.trans h'⟩

theorem Ran.following {s t u : State} (h : Moves .after s t) (h' : Ran t u) : Ran s u := by
  rcases h' with h' | ⟨v, w, hv, hr, hw⟩
  · exact .inl (h.trans h')
  · exact .inr ⟨v, w, h.trans hv, hr, hw⟩

theorem Stepped.before {s t : State} (h : Moves .before s t) : Stepped s t := ⟨t, h, .inl .refl⟩
theorem Stepped.ran {s t : State} (h : Ran s t) : Stepped s t := ⟨s, .refl, h⟩
theorem Stepped.after {s t : State} (h : Moves .after s t) : Stepped s t := .ran (.inl h)
theorem Stepped.both {s t u : State} (h : Moves .before s u) (h' : Moves .after u t) : Stepped s t :=
  ⟨u, h, .inl h'⟩

/-- An invariant of the moves of a stage holds along a run of them. -/
theorem Moves.keeps {P : State → Prop} {g : Stage} (hP : ∀ s t, Move g s t → P s → P t) {s t : State}
    (h : Moves g s t) (hs : P s) : P t := by
  induction h with
  | refl => exact hs
  | tail _ hm ih => exact hP _ _ hm ih

/-- An invariant of the moves holds along a step. -/
theorem Stepped.keeps {P : State → Prop} (hP : ∀ g s t, Move g s t → P s → P t) {s t : State}
    (h : Stepped s t) (hs : P s) : P t := by
  obtain ⟨u, hbefore, hafter | ⟨v, w, hv, ⟨x, hx, rfl⟩, ht⟩⟩ := h
  · exact hafter.keeps (hP _) (hbefore.keeps (hP _) hs)
  · exact ht.keeps (hP _) (hP _ _ _ .start (hx.keeps (hP _) (hv.keeps (hP _) (hbefore.keeps (hP _) hs))))

end Sys2Proof.Machine
end

section
/-! Each operation that the meanings share, as a run of moves. -/

namespace Sys2Proof.Machine

variable {g : Stage}

/-! ### Records outside the laws -/

theorem moves_aside {s t : State}
    (h : KeepsAllBut [.resetLow, .answer, .lastEnd, .periods] s t) : Moves g s t :=
  .single (.aside h)

theorem moves_answerBus (a : BusAnswer) (s : State) : Moves g s (answerBus a s) :=
  moves_aside ((answerBus_keeps a s).mono (by simp))

/-! ### Port link units -/

theorem LinkUnit.Quiet.of_responseReady {u v : LinkUnit} {r : Response} (ht : v.tickets = u.tickets)
    (hl : v.link = .responseReady r) : u.Quiet v := ⟨ht, by simp [hl]⟩

theorem LinkUnit.Quiet.of_link {u v : LinkUnit} (ht : v.tickets = u.tickets) (hl : v.link = u.link) :
    u.Quiet v := ⟨ht, fun _ _ _ _ => hl⟩

theorem moves_respond (p : Port) (st : Status) (r : List Byte) (s : State) :
    Moves g s (respond p st r s) := by
  unfold respond
  split
  · exact .single (.link p _ (.of_responseReady rfl rfl))
  · exact .refl

theorem moves_enterFault (p : Port) (f : AccessFault) (s : State) : Moves g s (enterFault p f s) :=
  .single (.link p _ (.of_link rfl rfl))

theorem moves_endTransfer (p : Port) (bits : List Bool) (s : State) : Moves g s (endTransfer p bits s) :=
  .single (.link p _ (.of_link rfl rfl))

/-! ### The stalled write -/

theorem moves_refuseStalled (r : FaultReason) (s : State) : Moves g s (refuseStalled r s) := by
  unfold refuseStalled
  split
  · exact .refl
  · exact ((Moves.one .unstall).trans (moves_enterFault _ _ _)).trans (moves_answerBus _ _)

theorem moves_refuseStalledUnder (i : EntryIx) (r : FaultReason) (s : State) :
    Moves g s (refuseStalledUnder i r s) := by
  unfold refuseStalledUnder
  split
  · exact .refl
  · split
    · exact moves_refuseStalled r s
    · exact .refl

theorem moves_endInHand (b : Bool) (s : State) : Moves g s (endInHand b s) := by
  unfold endInHand
  split
  · exact (Moves.one .unstall).trans (moves_answerBus _ _)
  · exact .refl

theorem endInHand_stalled (b : Bool) (s : State) : (endInHand b s).stalled = none := by
  unfold endInHand
  split
  · rfl
  · next h =>
    rw [Bool.not_eq_true, State.inHand, Bool.or_eq_false_iff] at h
    simpa using h.1

/-- R122: after the refusal no write stands stalled under the entry. -/
theorem refuseStalledUnder_notStalled (i : EntryIx) (r : FaultReason) (s : State) :
    NotStalledUnder (refuseStalledUnder i r s) i := by
  intro w hw
  unfold refuseStalledUnder at hw
  split at hw
  · next h => simp [h] at hw
  · next v hv =>
    split at hw
    · simp [refuseStalled, hv, answerBus, enterFault] at hw
    · next hne =>
      rw [hv] at hw
      exact Option.some.inj hw ▸ hne

/-! ### The directory -/

theorem Lease.Edits.refl (n : Nat) (l : Lease) : l.Edits n l where
  holder := rfl
  claim := rfl
  outstanding := rfl
  occupying := id
  tombstone := .inl
  draining := .inl
  closing := id
  balance := fun h h' => ⟨h, h'⟩
  interval := .inl le_rfl

theorem Edited.refl (s : State) (i : EntryIx) : ∀ l : Option Lease, Edited g s i l l
  | none => rfl
  | some l => ⟨.refl _ l, .inr id, .inl id⟩

theorem moves_setLease {s : State} {i : EntryIx} {m : Option Lease}
    (he : Edited g s i (s.lease i) m) : Moves g s (s.setLease i m) := by
  refine .single (.directory (keeps_setLease s i m) (fun j => generation_setLease s i j m) fun j => ?_)
  by_cases h : j = i
  · subst h; simpa using he
  · rw [lease_setLease_of_ne s m h]; exact .refl s j _

/-- A change of every entry at once. -/
theorem moves_mapEntries {s : State} {f : Entry → Entry}
    (hf : ∀ i, (f (s.entry i)).generation = (s.entry i).generation ∧
      Edited g s i (s.lease i) (f (s.entry i)).lease) :
    Moves g s { s with entries := vmap f s.entries } := by
  have hentry : ∀ i, ({ s with entries := vmap f s.entries } : State).entry i = f (s.entry i) :=
    fun i => getElem_vmap f s.entries i
  refine .single (.directory (keeps_entries s _) (fun i => ?_) fun i => ?_)
  · rw [hentry]; exact (hf i).1
  · change Edited g s i (s.lease i) (Entry.lease (State.entry _ i))
    rw [hentry]
    exact (hf i).2

/-! ### The arbiter -/

/-- R95: a port whose requester state no grant rests on changes to a state of that kind. -/
theorem moves_setRequesting {s : State} {p : Port} {r : Requesting}
    (hreq : r.req = s.requester p ∨ (s.tgr p = false ∧ r.req = .idle))
    (hset : (s.requesting p).InRange → r.InRange) : Moves g s (s.setRequesting p r) := by
  have hself : (s.setRequesting p r).requester p = r.req :=
    congrArg Requesting.req (requesting_setRequesting_self s p r)
  have hother : ∀ q, q ≠ p → (s.setRequesting p r).requester q = s.requester q := fun q hq =>
    congrArg Requesting.req (requesting_setRequesting_of_ne s r hq)
  refine .single (.arbiter (keeps_setRequesting s p r) rfl (fun q => ?_) (fun q => ?_) fun q => ?_)
  · by_cases h : q = p
    · subst h
      rcases hreq with hsame | ⟨hno, hidle⟩
      · simp [State.tgr, hself, hsame]
      · rw [hno]; simp [State.tgr, hself, hidle]
    · simp [State.tgr, hother q h]
  · by_cases h : q = p
    · subst h
      rcases hreq with hsame | ⟨-, hidle⟩
      · rw [hself, hsame]; exact id
      · simp [hself, hidle]
    · simp [hother q h]
  · by_cases h : q = p
    · subst h; simpa using hset
    · rw [requesting_setRequesting_of_ne s r h]; exact id

theorem moves_setTrq (p : Port) (b : Bool) (s : State) : Moves g s (s.setTrq p b) :=
  moves_setRequesting (.inl rfl) id

theorem moves_withdraw {s : State} {p : Port} (h : s.tgr p = false) :
    Moves g s (s.setRequester p .idle) := moves_setRequesting (.inr ⟨h, rfl⟩) id

/-- R103, R104: the request to yield moves no grant. -/
theorem moves_askYield {s : State} {p : Port} (h : s.requester p = .owner) :
    Moves g s (askYield p s) := by
  have hreq : ∀ q, (askYield p s).requester q = if q = p then .yielding else s.requester q := by
    intro q
    split
    · next e => subst e; exact requester_setRequester_self s _ _
    · next hq => exact requester_setRequester_of_ne s _ hq
  refine .single (.arbiter (askYield_keeps p s) rfl (fun q => ?_) (fun q => ?_) fun q => ?_)
  · by_cases hq : q = p
    · subst hq; simp [State.tgr, hreq, h]
    · simp [State.tgr, hreq, hq]
  · rw [hreq]; split <;> simp
  · by_cases hq : q = p
    · subst hq; simp [askYield, State.requesting, State.setRequester, State.setRequesting, Requesting.InRange]
    · have : (askYield p s).requesting q = s.requesting q := requesting_setRequesting_of_ne s _ hq
      rw [this]; exact id

theorem moves_contenderTest (s : State) : Moves g s (contenderTest s) := by
  unfold contenderTest
  split
  · split
    · next h => exact moves_askYield h.1
    · exact .refl
  · exact .refl

/-- A change of the arbiter's timers. -/
theorem moves_timers {s t : State} (h : KeepsAllBut [.arbiter] s t) (hp : t.arb.ports = s.arb.ports)
    (hb : t.arb.bus = s.arb.bus) : Moves g s t := by
  have hreq : ∀ q, t.requesting q = s.requesting q := fun q => by simp only [State.requesting, hp]
  have hst : ∀ q, t.requester q = s.requester q := fun q => by simp only [State.requester, hp]
  exact .single (.arbiter h hb (fun q => by simp only [State.tgr, hst]) (fun q => by rw [hst]; exact id)
    fun q => by rw [hreq]; exact id)

theorem moves_takeHoldExpiry (s : State) : Moves g s (takeHoldExpiry s) := by
  unfold takeHoldExpiry
  split
  · split
    · next h =>
      have htimer : ∀ b, Moves g s { s with arb := { s.arb with holdTimer := Timer.stopped, overdue := b } } :=
        fun b => moves_timers (keeps_arb s _) rfl rfl
      dsimp only
      split
      · exact (htimer s.arb.overdue).trans (moves_askYield h.1)
      · exact htimer true
    · exact .refl
  · exact .refl

theorem tgr_of_requester {s : State} {p : Port} (h : s.requester p = .owner ∨ s.requester p = .yielding) :
    s.tgr p = true := by
  unfold State.tgr; rcases h with h | h <;> rw [h]

/-- R101, R106, R112: the owner's access in hand ends and its grant is lost. -/
theorem moves_loseGrant {s : State} {p : Port} (b : Bool) {r : Requester} (h : s.tgr p = true)
    (hr : r = .idle ∨ r = .preempted) : Moves g s (loseGrant p r (endInHand b s)) := by
  refine (moves_endInHand b s).trans (.single (.fall p r (endInHand_stalled b s) ?_ hr))
  exact ((endInHand_keeps b s).tgr p).trans h

theorem moves_takePreemption (s : State) : Moves g s (takePreemption s) := by
  unfold takePreemption
  split
  · next p _ =>
    split
    · next h =>
      have htimer : Moves g s { s with arb := { s.arb with graceTimer := Timer.stopped } } :=
        moves_timers (keeps_arb s _) rfl rfl
      refine (htimer.trans (moves_enterFault p s.preemptionFault _)).trans (moves_loseGrant true ?_ (.inr rfl))
      exact tgr_of_requester (.inr h.1)
    · exact .refl
  · exact .refl

theorem moves_resetRequester (p : Port) (s : State) : Moves g s (resetRequester p s) := by
  unfold resetRequester
  split
  · exact .refl
  · next h => exact moves_withdraw (by simp [State.tgr, h])
  · next h => exact moves_withdraw (by simp [State.tgr, h])
  · next h => exact moves_loseGrant true (tgr_of_requester (.inl h)) (.inl rfl)
  · next h => exact moves_loseGrant true (tgr_of_requester (.inr h)) (.inl rfl)

theorem moves_takeFall (p : Port) (s : State) : Moves g s (takeFall p s) := by
  unfold takeFall
  split
  · exact .refl
  · next h => exact moves_withdraw (by simp [State.tgr, h])
  · next h => exact moves_loseGrant false (tgr_of_requester (.inl h)) (.inl rfl)
  · next h => exact moves_loseGrant false (tgr_of_requester (.inr h)) (.inl rfl)
  · next h => exact moves_withdraw (by simp [State.tgr, h])

end Sys2Proof.Machine
end

section
/-! Each command, as a run of moves: the step relation `Stepped` covers every step but POWER_ON. -/

namespace Sys2Proof.Machine

variable {g : Stage}

/-! ### Leases that change within their grant -/

/-- R73, R77: a HELD or PARKED lease that begins to drain. It may be freed, or drain towards FREE, only
before the first scan. -/
theorem edited_beginDrain {s : State} {i : EntryIx} {l k : Lease} {st : LeaseState} (hl : HeldOrParked l)
    (hk : k.holder = l.holder ∧ k.claim = l.claim ∧ k.outstanding = l.outstanding ∧
      k.balance = l.balance ∧ k.interval ≤ l.interval)
    (hst : (g = .before ∧ st = .closing) ∨ ∃ r, st = .revoking r false ∧ (g = .before ∨ r ≠ .portReset))
    (hu : Unstalled s i l) : Edited g s i (some l) (k.beginDrain st) := by
  obtain ⟨hholder, hclaim, hout, hbal, hint⟩ := hk
  have hocc : l.occupying = true := by rcases hl with h | h <;> simp [Lease.occupying, h]
  have hnc : l.state ≠ .closing := by rcases hl with h | h <;> simp [h]
  have hfree : ∀ n, l.outstanding = n → n = 0 → g = .before → Edited g s i (some l) none :=
    fun n hn h0 hg => ⟨hg, hnc, .inl (hn.trans h0), hu⟩
  unfold Lease.beginDrain
  split
  · next hk0 =>
    have h0 : l.outstanding = 0 := hout ▸ hk0
    rcases hst with ⟨hg, rfl⟩ | ⟨r, rfl, hr⟩
    · exact hfree _ rfl h0 hg
    · by_cases hp : r = .portReset
      · simpa [Lease.drained, hp] using hfree _ rfl h0 (hr.resolve_right (by simp [hp]))
      · simp only [Lease.drained, hp, Bool.false_eq_true, or_self, if_false]
        refine ⟨⟨hholder, hclaim, hout, fun _ => hocc, fun _ => .inr h0, ?_, fun h => absurd h hnc, ?_,
          .inl hint⟩, .inr fun _ => rfl, .inr hu⟩
        · simp [Lease.draining]
        · simp only [hbal]; exact fun h h' => ⟨h, h'⟩
  · next hk0 =>
    have h0 : l.outstanding ≠ 0 := hout ▸ hk0
    refine ⟨⟨hholder, hclaim, hout, fun _ => hocc, ?_, fun _ => .inr h0, fun h => absurd h hnc, ?_,
      .inl hint⟩, ?_, .inr hu⟩
    · rcases hst with ⟨hg, rfl⟩ | ⟨r, rfl, hr⟩ <;> simp [Lease.occupying]
    · simp only [hbal]; exact fun h h' => ⟨h, h'⟩
    · rcases hst with ⟨hg, rfl⟩ | ⟨r, rfl, hr⟩
      · exact .inl hg
      · exact hr.imp_right fun h _ => by simp [Lease.lasting, h]

/-- A change of a lease that keeps its state, or moves it between HELD and PARKED. -/
theorem edited_adjusted {s : State} {i : EntryIx} {l m : Lease}
    (hm : m.holder = l.holder ∧ m.claim = l.claim ∧ m.outstanding = l.outstanding)
    (hst : m.state = l.state ∨ (HeldOrParked l ∧ HeldOrParked m ∧ (l.state = .held → Unstalled s i l)))
    (hbal : -8 ≤ l.balance → l.balance ≤ 8 → -8 ≤ m.balance ∧ m.balance ≤ 8)
    (hint : m.interval ≤ l.interval ∨ m.interval ≤ (s.settings l.claim.target).term) :
    Edited g s i (some l) (some m) := by
  obtain ⟨hholder, hclaim, hout⟩ := hm
  rcases hst with hst | ⟨hl, hm, hu⟩
  · refine ⟨⟨hholder, hclaim, hout, ?_, ?_, ?_, ?_, hbal, hint⟩, .inr ?_, .inl ?_⟩
    all_goals simp only [Lease.occupying, Lease.draining, Lease.lasting, hst]
    · exact id
    · exact .inl
    · exact .inl
    · exact id
    · exact id
    · exact id
  · have hmocc : m.occupying = true := by rcases hm with h | h <;> simp [Lease.occupying, h]
    have hlocc : l.occupying = true := by rcases hl with h | h <;> simp [Lease.occupying, h]
    have hmdr : m.draining = false := by rcases hm with h | h <;> simp [Lease.draining, h]
    have hmlast : m.lasting = true := by rcases hm with h | h <;> simp [Lease.lasting, h]
    have hnc : l.state ≠ .closing := by rcases hl with h | h <;> simp [h]
    refine ⟨⟨hholder, hclaim, hout, fun _ => hlocc, by simp [hmocc], by simp [hmdr],
      fun h => absurd h hnc, hbal, hint⟩, .inr fun _ => hmlast, ?_⟩
    rcases hl with h | h
    · exact .inr (hu h)
    · exact .inl (by simp [h])

/-- The running states are HELD and PARKED. -/
theorem running_iff {l : Lease} : l.running = true ↔ HeldOrParked l := by
  unfold Lease.running HeldOrParked; split <;> simp_all

theorem edited_ticked (s : State) (i : EntryIx) (l : Lease) : Edited g s i (some l) (some l.ticked) := by
  unfold Lease.ticked
  split
  · split
    · exact edited_adjusted ⟨rfl, rfl, rfl⟩ (.inl rfl) (fun h h' => ⟨h, h'⟩) (.inl le_rfl)
    · exact edited_adjusted ⟨rfl, rfl, rfl⟩ (.inl rfl) (fun h h' => ⟨h, h'⟩) (.inl (Nat.sub_le _ _))
  · exact .refl s i _

/-- R77, R122: a HELD or PARKED lease is revoked. -/
theorem moves_revokeEntry {s : State} {i : EntryIx} {l k : Lease} {r : RevokeReason}
    (hl : s.lease i = some l) (hp : HeldOrParked l)
    (hk : k.holder = l.holder ∧ k.claim = l.claim ∧ k.outstanding = l.outstanding ∧
      k.balance = l.balance ∧ k.interval ≤ l.interval) (hr : r ≠ .portReset) :
    Moves g s (revokeEntry i r k s) := by
  have hl' : (refuseStalledUnder i .leaseRetiring s).lease i = some l :=
    ((refuseStalledUnder_keeps i _ s).lease i).trans hl
  refine (moves_refuseStalledUnder i .leaseRetiring s).trans (moves_setLease ?_)
  rw [hl']
  exact edited_beginDrain hp hk (.inr ⟨r, rfl, .inr hr⟩) (.inl (refuseStalledUnder_notStalled i _ s))

theorem moves_scan (s : State) : Moves .after s (scan s) := .one (.scan (.inl rfl))

theorem moves_scanIf (b : Bool) (s : State) (hg : g = .after ∨ g = .engine := by simp) :
    Moves g s (scanIf b s) := by
  unfold scanIf; split
  · exact .one (.scan hg)
  · exact .refl

/-! ### Expiries and the tick -/

theorem moves_takeBoundary (i : EntryIx) (s : State) : Moves .after s (takeBoundary i s) := by
  unfold takeBoundary
  split
  · exact .refl
  · next l hl =>
    split
    · dsimp only
      split
      · next hs =>
        split
        · next hb =>
          refine moves_setLease (hl ▸ edited_adjusted ⟨rfl, rfl, rfl⟩ (.inl rfl) ?_ (.inr le_rfl))
          intro _ h
          simp only [Lease.drawn]
          omega
        · exact (moves_revokeEntry (k := { l with interval := 0 }) (r := .expired) hl (.inl hs) ⟨rfl, rfl, rfl, rfl, Nat.zero_le _⟩ (by simp)).trans
            (moves_scanIf _ _)
      · exact moves_setLease (hl ▸ edited_adjusted ⟨rfl, rfl, rfl⟩ (.inl rfl) (fun h h' => ⟨h, h'⟩)
          (.inr le_rfl))
      · exact .refl
    · exact .refl

theorem moves_takeWaitExpiry (p : Port) (k : Slot) (s : State) :
    Moves .after s (takeWaitExpiry p k s) := by
  unfold takeWaitExpiry
  split
  · exact .refl
  · split
    · exact (Moves.one (.leave p k _ (by simp))).trans (moves_scan _)
    · exact .refl

theorem moves_foldl {α : Type} {f : State → α → State} (hf : ∀ s a, Moves g s (f s a)) (l : List α)
    (s : State) : Moves g s (l.foldl f s) := by
  induction l generalizing s with
  | nil => exact .refl
  | cons a l ih => exact (hf s a).trans (ih _)

theorem moves_settleExpiries (s : State) : Moves .after s (settleExpiries s) :=
  (((moves_foldl (fun s i => moves_takeBoundary i s) allEntries s).trans
    (moves_foldl (fun s (x : Port × Slot) => moves_takeWaitExpiry x.1 x.2 s) allSlots _)).trans
      (moves_takeHoldExpiry _)).trans (moves_takePreemption _)

theorem ticked_inRange {c : Clock} (h : c.InRange) : c.ticked.InRange := by
  obtain ⟨hk, hpending⟩ := h
  refine ⟨?_, by simp [Clock.ticked]⟩
  unfold Clock.ticked
  cases hp : c.pendingK with
  | none => exact hk
  | some n => exact hpending n hp

theorem moves_deliverTick (s : State) : Moves g s (deliverTick s) := by
  let s1 : State := { s with entries := vmap Entry.ticked s.entries }
  let s2 : State := { s1 with waitList := s1.waitList.map Waiter.ticked }
  let s3 : State := { s2 with
    arb := { s2.arb with holdTimer := s2.arb.holdTimer.ticked, graceTimer := s2.arb.graceTimer.ticked } }
  have h1 : Moves g s s1 := moves_mapEntries fun i => by
    refine ⟨rfl, ?_⟩
    cases hl : s.lease i with
    | none => rw [State.lease] at hl; simp [Entry.ticked, hl, Edited]
    | some l => rw [State.lease] at hl; simpa [Entry.ticked, hl] using edited_ticked s i l
  have h2 : Moves g s1 s2 := .one .waitTick
  have h3 : Moves g s2 s3 := moves_timers (keeps_arb s2 _) rfl rfl
  have h4 : Moves g s3 (deliverTick s) :=
    .one (.clock (keeps_clock s3 _) ticked_inRange)
  exact ((h1.trans h2).trans h3).trans h4

theorem moves_takeTick (s : State) : Moves .after s (takeTick s) :=
  (moves_settleExpiries s).trans (moves_deliverTick _)

/-! ### The engine -/

/-- R138: the last stages of an end step. -/
theorem EngineRun.endStep {s t : State} (h : Moves .engine s t) (b : Bool) : EngineRun s (endStep b t) :=
  ⟨_, (h.trans (moves_scanIf b t)).tail .admitStalled, rfl⟩

theorem moves_reportCompletion (t : TargetIx) (s : State) : Moves g s (reportCompletion t s).1 := by
  unfold reportCompletion
  dsimp only
  split
  · next h => exact .one (.health t _ rfl (.inr (by simp [h, TargetState.inService])) (by simp))
  · exact .one (.health t _ rfl (.inl rfl) (by simp))

theorem moves_reportTimeout (t : TargetIx) {s : State} (hc : s.current = none) :
    Moves .engine s (reportTimeout t s).1 := by
  unfold reportTimeout
  dsimp only
  split
  · next h => exact .one (.health t _ rfl (.inr (by simp [h, TargetState.inService])) (by simp))
  · next h =>
    dsimp only
    have hlose : Move .engine (s.setTarget t { s.target t with timeouts := 2 }) (loseTarget t .accessTimeout
        (s.setTarget t { s.target t with timeouts := 2 })) := .lose t _ (by simp [h, TargetState.inService]) hc
    exact (Moves.one (.health t { s.target t with timeouts := 2 } rfl (.inl rfl) (by simp))).tail hlose
  · exact .refl

/-- R138: the state in which the write at the queue's head has left the engine. -/
def State.withoutWrite (s : State) (rest : List PostedWrite) (e : Option AccessEnd) : State :=
  { s with queue := rest, current := none, lastEnd := e }

/-- R138: the state in which the pending read has left the engine. -/
def State.withoutRead (s : State) (e : Option AccessEnd) : State :=
  { s with read := none, current := none, lastEnd := e }

/-- R141, R144: the state in which the probe of target `t` has left the engine. -/
def State.withoutProbe (s : State) (t : TargetIx) (e : Option AccessEnd) : State :=
  { s.setProbe t none with current := none, lastEnd := e }

/-- R138, R158, R159: the report of an access of target `t` that has ended, and whether a scan is due. -/
def reportEnd (late : Bool) (t : TargetIx) (s : State) : State × Bool :=
  if late then reportTimeout t s else reportCompletion t s

theorem moves_reportEnd (late : Bool) (t : TargetIx) {s : State} (hc : s.current = none) :
    Moves .engine s (reportEnd late t s).1 := by
  unfold reportEnd
  split
  · exact moves_reportTimeout t hc
  · exact moves_reportCompletion t s

/-- R142: the fault of a posted write that timed out. -/
def faultLate (late : Bool) (w : PostedWrite) (s : State) : State :=
  if late then enterFault w.port (w.fault .writeLost) s else s

theorem moves_faultLate (late : Bool) (w : PostedWrite) (s : State) : Moves g s (faultLate late w s) := by
  unfold faultLate
  split
  · exact moves_enterFault _ _ s
  · exact .refl

/-- R139, R142: the end step of a write, stage by stage. -/
theorem endWrite_cons {s : State} {w : PostedWrite} {rest : List PostedWrite} (h : s.queue = w :: rest)
    (late : Bool) (n : Nat) :
    ∃ e f r, f = finishAccess w.handle late (s.withoutWrite rest (some e)) ∧
      e = ⟨.write, w.target, w.address, n, late⟩ ∧
      r = reportEnd late w.target (faultLate late w f.1) ∧
      endWrite late n s = endStep (f.2 || r.2) r.1 := by
  refine ⟨_, _, _, rfl, rfl, rfl, ?_⟩
  unfold endWrite
  rw [h]
  rfl

/-- R140, R143: the end step of an owner read, stage by stage. -/
theorem endRead_some {s : State} {x : PendingRead} (h : s.read = some x) (late : Bool) (n : Nat)
    (words : List Word) :
    ∃ e f r, f = finishAccess x.handle false (s.withoutRead (some e)) ∧
      e = ⟨.read, x.target, x.address, n, late⟩ ∧
      r = reportEnd late x.target (readEnded (returnRead x late words f.1)) ∧
      endRead late n words s = endStep (f.2 || r.2) r.1 := by
  refine ⟨_, _, _, rfl, rfl, rfl, ?_⟩
  unfold endRead
  rw [h]
  rfl

theorem faultLate_keeps (late : Bool) (w : PostedWrite) (s : State) :
    KeepsAllBut [.links] s (faultLate late w s) := by
  unfold faultLate
  split
  · exact enterFault_keeps _ _ s
  · exact .refl _ s

theorem ran_endWrite (late : Bool) (n : Nat) (s : State) : Ran s (endWrite late n s) := by
  cases hq : s.queue with
  | nil => unfold endWrite; rw [hq]; exact .inl .refl
  | cons w rest =>
    obtain ⟨e, f, r, rfl, -, rfl, hend⟩ := endWrite_cons hq late n
    rw [hend]
    have hleft : Move .engine s (finishAccess w.handle late (s.withoutWrite rest (some e))).1 :=
      .finishWrite w rest late _ hq
    have hidle : (finishAccess w.handle late (s.withoutWrite rest (some e))).1.current = none :=
      (finishAccess_keeps _ _ _).current
    exact (EngineRun.endStep (((Moves.one hleft).trans (moves_faultLate _ _ _)).trans
      (moves_reportEnd _ _ ((faultLate_keeps _ _ _).current.trans hidle))) _).ran

theorem returnRead_keeps (x : PendingRead) (late : Bool) (words : List Word) (s : State) :
    KeepsAllBut [.links, .answer] s (returnRead x late words s) := by
  unfold returnRead
  split
  · split
    · exact ((enterFault_keeps _ _ s).mono (by simp)).trans ((answerBus_keeps _ _).mono (by simp))
    · exact (answerBus_keeps _ s).mono (by simp)
  · exact .refl _ s

theorem ran_endRead (late : Bool) (n : Nat) (words : List Word) (s : State) :
    Ran s (endRead late n words s) := by
  cases hx : s.read with
  | none => unfold endRead; rw [hx]; exact .inl .refl
  | some x =>
    obtain ⟨e, f, r, rfl, -, rfl, hend⟩ := endRead_some hx late n words
    rw [hend]
    have hleft : Move .engine s (readEnded (returnRead x late words
        (finishAccess x.handle false (s.withoutRead (some e))).1)) := .finishRead x late words _ hx
    have hidle : (readEnded (returnRead x late words
        (finishAccess x.handle false (s.withoutRead (some e))).1)).current = none :=
      ((readEnded_keeps _).current.trans (returnRead_keeps _ _ _ _).current).trans
        (finishAccess_keeps _ _ _).current
    exact (EngineRun.endStep ((Moves.one hleft).trans (moves_reportEnd _ _ hidle)) _).ran

theorem setTarget_setTarget (s : State) (t : TargetIx) (r r' : TargetRecord) :
    (s.setTarget t r).setTarget t r' = s.setTarget t r' := by
  simp [State.setTarget]

theorem withoutProbe_keeps (s : State) (t : TargetIx) (e : Option AccessEnd) :
    KeepsAllBut [.probes, .current, .lastEnd] s (s.withoutProbe t e) :=
  fun x hx => by cases x <;> simp_all [Part.same, State.withoutProbe]

theorem probeLeft_withoutProbe {s : State} {t : TargetIx} (hx : s.probe t ≠ none)
    (e : Option AccessEnd) : ProbeLeft s t (s.withoutProbe t e) where
  keeps := (withoutProbe_keeps s t e).mono (by simp)
  filled := hx
  probe := probe_setProbe_self s t none
  probes := fun _ hv => probe_setProbe_of_ne s none hv
  current := rfl
  state := rfl
  settings := rfl
  timeouts := rfl
  targets := fun _ _ => rfl

/-- R148: a probe result changes nothing else of the record. -/
theorem ProbeLeft.probeResult {s u : State} {t : TargetIx} (h : ProbeLeft s t u) (w : Option Word) :
    ProbeLeft s t (u.setTarget t { u.target t with probeResult := w }) where
  keeps := h.keeps.trans ((keeps_setTarget u t _).mono (by simp))
  filled := h.filled
  probe := h.probe
  probes := h.probes
  current := h.current
  state := by rw [target_setTarget_self]; exact h.state
  settings := by rw [target_setTarget_self]; exact h.settings
  timeouts := by rw [target_setTarget_self]; exact h.timeouts
  targets := fun v hv => (target_setTarget_of_ne u _ hv).trans (h.targets v hv)

theorem moves_reportProbeWord {s u : State} {t : TargetIx} (h : ProbeLeft s t u) (w : Word) :
    Moves .engine s (reportProbeWord t w u).1 := by
  unfold reportProbeWord
  dsimp only
  split
  · exact .single (.probeReady t h w)
  · dsimp only
    exact .single (.probeLost t .probeMismatch (h.probeResult (some w)))

/-- R141, R144: the end step of a probe with its word. -/
theorem endProbe_word {s : State} {t : TargetIx} {x : Probe} (h : s.probe t = some x) (w : Word) :
    ∃ r, r = reportProbeWord t w (s.withoutProbe t (some ⟨.probe t, t, x.address, 1, false⟩)) ∧
      endProbe t (some w) s = endStep r.2 r.1 := by
  refine ⟨_, rfl, ?_⟩
  unfold endProbe
  rw [h]
  rfl

/-- R141, R144: the end step of a probe that timed out. -/
theorem endProbe_late {s : State} {t : TargetIx} {x : Probe} (h : s.probe t = some x) :
    endProbe t none s = endStep true (loseTarget t .probeTimeout
      (s.withoutProbe t (some ⟨.probe t, t, x.address, 0, true⟩))) := by
  simp [endProbe, h, State.withoutProbe]

theorem ran_endProbe (t : TargetIx) (w : Option Word) (s : State) : Ran s (endProbe t w s) := by
  cases hx : s.probe t with
  | none => unfold endProbe; rw [hx]; exact .inl .refl
  | some x =>
    have hleft := fun e => probeLeft_withoutProbe (s := s) (t := t) (by simp [hx]) e
    cases w with
    | none =>
      rw [endProbe_late hx]
      exact (EngineRun.endStep (Moves.one (.probeLost t .probeTimeout (hleft _))) true).ran
    | some w =>
      obtain ⟨r, rfl, hend⟩ := endProbe_word hx w
      rw [hend]
      exact (EngineRun.endStep (moves_reportProbeWord (hleft _) w) _).ran

theorem moves_takeWord (c : Current) (w : Word) {s : State} (hc : s.current = some c) :
    Moves g s (takeWord c w s) := by
  have hkeep : (capture c.holding w s).current = some c := by
    unfold capture
    repeat' split
    all_goals exact hc
  exact (Moves.one (.capture c.holding w)).tail (.phase c _ hkeep rfl)

theorem ran_endCurrent (c : Current) (late : Bool) (s : State) : Ran s (endCurrent c late s) := by
  unfold endCurrent
  split
  · exact ran_endWrite _ _ _
  · split
    · exact ran_endRead _ _ _ _
    · exact .inl .refl
  · split
    · exact ran_endProbe _ _ _
    · exact .inl .refl

theorem ran_enginePeriod (trdy : Bool) (td : Word) (s : State) : Ran s (enginePeriod trdy td s) := by
  unfold enginePeriod
  split
  · exact .inl .refl
  · next c hc =>
    split
    · exact .inl (.one (.phase c _ hc rfl))
    · exact .inl (.one (.phase c _ hc rfl))
    · split
      · exact .inl (moves_takeWord c td hc)
      · split
        · exact .inl (.one (.phase c _ hc rfl))
        · exact .inl (.one (.phase c _ hc rfl))
    · exact ran_endCurrent _ _ _

theorem moves_dividerPeriod (s : State) : Moves .after s (dividerPeriod s) := by
  unfold dividerPeriod
  split
  · exact (moves_takeTick s).trans (moves_settleExpiries _)
  · exact .one (.clock (keeps_clock s _) id)

theorem ran_refPeriod (s : State) : Ran s (refPeriod s) := by
  unfold refPeriod
  split
  · exact .inl .refl
  · have hperiod : Moves .after s { s with periods := s.periods + 1 } :=
      moves_aside ((keeps_periods s _).mono (by simp))
    exact (Ran.following (hperiod.trans (moves_settleExpiries _)) (ran_enginePeriod _ _ _)).after
      (moves_dividerPeriod _)

end Sys2Proof.Machine
end

section
/-! Every command as a step of moves. -/

namespace Sys2Proof.Machine

/-! ### Commands that name a handle -/

/-- R8 to R10: what a command that names a handle can do. -/
theorem withHandle_cases (p : Port) (cmd : HandleCommand) (ok : Bool) (h : RawHandle)
    (act : EntryIx → Lease → State → State) (s : State) :
    (∃ st res, withHandle p cmd ok h act s = respond p st res s) ∨
      ∃ i l, s.lease i = some l ∧ (cmd.testsHolder = true → l.holder = p) ∧
        cmd.check l.state = .taken ∧ withHandle p cmd ok h act s = act i l s := by
  unfold withHandle
  split
  · exact .inl ⟨_, _, rfl⟩
  · next i _ =>
    split
    · exact .inl ⟨_, _, rfl⟩
    · split
      · exact .inl ⟨_, _, rfl⟩
      · next l hl =>
        split
        · exact .inl ⟨_, _, rfl⟩
        · split
          · exact .inl ⟨_, _, rfl⟩
          · next hp =>
            split
            · next hc => exact .inr ⟨i, l, hl, fun h => by simpa [h] using hp, hc, rfl⟩
            · exact .inl ⟨_, _, rfl⟩
            · exact .inl ⟨_, _, rfl⟩

theorem stepped_respond (p : Port) (st : Status) (r : List Byte) (s : State) :
    Stepped s (respond p st r s) := .after (moves_respond p st r s)

theorem Stepped.refl (s : State) : Stepped s s := .after .refl

theorem stepped_withHandle {p : Port} {cmd : HandleCommand} {ok : Bool} {h : RawHandle}
    {act : EntryIx → Lease → State → State} {s : State}
    (hact : ∀ i l, s.lease i = some l → (cmd.testsHolder = true → l.holder = p) →
      cmd.check l.state = .taken → Stepped s (act i l s)) : Stepped s (withHandle p cmd ok h act s) := by
  rcases withHandle_cases p cmd ok h act s with ⟨st, res, e⟩ | ⟨i, l, hl, hp, hc, e⟩
  · rw [e]; exact stepped_respond p st res s
  · rw [e]; exact hact i l hl hp hc

/-- R10: CLOSE and REVOKE are taken in HELD and PARKED. -/
theorem check_close_eq_taken_iff {st : LeaseState} :
    HandleCommand.check .close st = .taken ↔ st = .held ∨ st = .parked := by
  cases st <;> simp [HandleCommand.check]

theorem check_revoke_eq_taken_iff {st : LeaseState} :
    HandleCommand.check .revoke st = .taken ↔ st = .held ∨ st = .parked := by
  cases st <;> simp [HandleCommand.check]

theorem check_park_eq_taken_iff {st : LeaseState} :
    HandleCommand.check .park st = .taken ↔ st = .held := by
  cases st <;> simp [HandleCommand.check]

theorem check_unpark_eq_taken_iff {st : LeaseState} :
    HandleCommand.check .unpark st = .taken ↔ st = .parked := by
  cases st <;> simp [HandleCommand.check]

theorem check_reshape_eq_taken_iff {st : LeaseState} :
    HandleCommand.check .reshape st = .taken ↔ st = .parked := by
  cases st <;> simp [HandleCommand.check]

theorem check_ackRevoke_eq_taken_iff {st : LeaseState} :
    HandleCommand.check .ackRevoke st = .taken ↔ ∃ r, st = .revoked r := by
  cases st <;> simp [HandleCommand.check]

theorem check_purge_eq_taken_iff {st : LeaseState} :
    HandleCommand.check .purge st = .taken ↔ ∃ r, st = .revoked r := by
  cases st <;> simp [HandleCommand.check]

theorem stepped_actRenew {p : Port} {n : Nat} {i : EntryIx} {l : Lease} {s : State}
    (hl : s.lease i = some l) : Stepped s (actRenew p n i l s) := by
  unfold actRenew
  split
  · next hsum =>
    have hedit : Edited .after s i (some l) (some { l with balance := l.balance + n }) :=
      edited_adjusted ⟨rfl, rfl, rfl⟩ (.inl rfl) (fun hlow _ => ⟨by dsimp only; omega, hsum⟩) (.inl le_rfl)
    exact .after ((moves_setLease (hl ▸ hedit)).trans (moves_respond _ _ _ _))
  · exact stepped_respond _ _ _ _

theorem stepped_actClose {p : Port} {i : EntryIx} {l : Lease} {s : State} (hl : s.lease i = some l)
    (hp : l.holder = p) (hs : HeldOrParked l) : Stepped s (actClose p i l s) := by
  let v := refuseStalledUnder i .leaseRetiring s
  have hv : v.lease i = some l := ((refuseStalledUnder_keeps i _ s).lease i).trans hl
  have hbegin : Moves .before s (v.setLease i (l.beginDrain .closing)) :=
    (moves_refuseStalledUnder i .leaseRetiring s).trans (moves_setLease (hv ▸ edited_beginDrain hs
      ⟨rfl, rfl, rfl, rfl, le_rfl⟩ (.inl ⟨rfl, rfl⟩) (.inl (refuseStalledUnder_notStalled i _ s))))
  unfold actClose
  dsimp only
  split
  · exact .both (hbegin.trans (moves_respond _ _ _ _)) (moves_scan _)
  · next h0 =>
    have hdrains : l.beginDrain .closing = some { l with state := .closing, boundaryDue := false } := by
      simp [Lease.beginDrain, h0]
    refine .before (hbegin.tail (.holdClose p i l.outstanding { l with state := .closing, boundaryDue := false } ?_ rfl hp))
    rw [lease_setLease_self, hdrains]

theorem stepped_actPark {p : Port} {i : EntryIx} {l : Lease} {s : State} (hl : s.lease i = some l)
    (hs : l.state = .held) : Stepped s (actPark p i l s) := by
  have hv : (refuseStalledUnder i .leaseParked s).lease i = some l :=
    ((refuseStalledUnder_keeps i _ s).lease i).trans hl
  have hedit : Edited .after (refuseStalledUnder i .leaseParked s) i (some l)
      (some { l with state := .parked }) :=
    edited_adjusted ⟨rfl, rfl, rfl⟩ (.inr ⟨.inl hs, .inr rfl, fun _ =>
      .inl (refuseStalledUnder_notStalled i _ s)⟩) (fun h h' => ⟨h, h'⟩) (.inl le_rfl)
  exact .after (((moves_refuseStalledUnder i .leaseParked s).trans (moves_setLease (hv ▸ hedit))).trans
    (moves_respond _ _ _ _))

theorem stepped_actUnpark {p : Port} {i : EntryIx} {l : Lease} {s : State} (hl : s.lease i = some l)
    (hs : l.state = .parked) : Stepped s (actUnpark p i l s) := by
  have hedit : Edited .after s i (some l) (some { l with state := .held }) :=
    edited_adjusted ⟨rfl, rfl, rfl⟩ (.inr ⟨.inr hs, .inl rfl, by simp [hs]⟩) (fun h h' => ⟨h, h'⟩)
      (.inl le_rfl)
  exact .after ((moves_setLease (hl ▸ hedit)).trans (moves_respond _ _ _ _))

theorem stepped_actStatus {p : Port} {i : EntryIx} {l : Lease} {s : State} (hl : s.lease i = some l) :
    Stepped s (actStatus p i l s) := by
  have hedit : Edited .after s i (some l)
      (some { l with marks := { l.marks with expiryNear := false, writeLost := false } }) :=
    edited_adjusted ⟨rfl, rfl, rfl⟩ (.inl rfl) (fun h h' => ⟨h, h'⟩) (.inl le_rfl)
  exact .after ((moves_setLease (hl ▸ hedit)).trans (moves_respond _ _ _ _))

/-- R3, R26: a window that is read from its bytes is in range. -/
theorem windowOf_inRange {most : Nat} {base count : BitVec 16} {w : Window}
    (h : windowOf most base count = some w) : w.InRange most := by
  unfold windowOf at h
  split at h
  · next hr =>
    obtain rfl := Option.some.inj h
    simp only [Window.InRange, Window.last]
    omega
  · cases h

theorem stepped_actReshape {p : Port} {w : Window} {c : LeaseClass} {i : EntryIx} {l : Lease} {s : State}
    (hw : w.InRange 256) (hl : s.lease i = some l) (hs : l.state = .parked) :
    Stepped s (actReshape p w c i l s) := by
  unfold actReshape
  dsimp only
  split
  · exact stepped_respond _ _ _ _
  · split
    · exact stepped_respond _ _ _ _
    · next hspan =>
      split
      · exact stepped_respond _ _ _ _
      · next hc =>
        have hmove := Move.reshape i l { target := l.claim.target, window := w, cls := c } hl hs rfl hw
          (by simpa using hspan) (by simpa using hc)
        exact .both ((Moves.one hmove).trans (moves_respond _ _ _ _)) (moves_scan _)

/-- R83: a tombstone is freed. -/
theorem moves_freeTombstone {i : EntryIx} {l : Lease} {r : RevokeReason} {s : State}
    (hl : s.lease i = some l) (hs : l.state = .revoked r) : Moves .before s (s.setLease i none) := by
  refine moves_setLease (hl ▸ ⟨rfl, by simp [hs], .inr ?_, .inr (.inl (by simp [hs]))⟩)
  simp [Lease.occupying, hs]

theorem stepped_actAckRevoke {p : Port} {i : EntryIx} {l : Lease} {r : RevokeReason} {s : State}
    (hl : s.lease i = some l) (hs : l.state = .revoked r) : Stepped s (actAckRevoke p i l s) :=
  .both ((moves_freeTombstone hl hs).trans (moves_respond _ _ _ _)) (moves_scan _)

theorem stepped_actPurge {i : EntryIx} {l : Lease} {r : RevokeReason} {s : State}
    (hl : s.lease i = some l) (hs : l.state = .revoked r) : Stepped s (actPurge i l s) :=
  .both ((moves_freeTombstone hl hs).trans (moves_respond _ _ _ _)) (moves_scan _)

theorem stepped_actRevoke {i : EntryIx} {l : Lease} {s : State} (hl : s.lease i = some l)
    (hs : HeldOrParked l) : Stepped s (actRevoke i l s) :=
  .after (((moves_revokeEntry hl hs ⟨rfl, rfl, rfl, rfl, le_rfl⟩ (by simp)).trans (moves_scanIf _ _)).trans
    (moves_respond _ _ _ _))

/-! ### The wait list -/

/-- R30: a wait limit that is present is in range. -/
theorem waitLimit_inRange {limit : BitVec 16} {n : Nat} (h : waitLimit limit = some n) :
    1 ≤ n ∧ n ≤ 65535 := by
  unfold waitLimit at h
  split at h
  · cases h
  · next h0 =>
    obtain rfl := Option.some.inj h
    have := limit.isLt
    omega

/-- R27, R28: the target that an OPEN goes on with holds the window, and the port is below its quota. -/
theorem openTarget_ok {s : State} {p : Port} {w : Window} {t : TargetIx}
    (h : s.openTarget p w = .ok t) : s.targetOfWindow w = some t ∧ s.charge p ≠ s.quota p := by
  unfold State.openTarget at h
  split at h
  · cases h
  · next u hu =>
    split at h
    · cases h
    · split at h
      · cases h
      · next hq => cases h; exact ⟨hu, hq⟩

theorem moves_queueOpen {p : Port} {c : Claim} {limit : BitVec 16} {s : State}
    (hq : s.charge p ≠ s.quota p) (ht : s.targetOfWindow c.window = some c.target)
    (hw : c.window.InRange 256) : Moves .opening s (queueOpen p c limit s) := by
  unfold queueOpen
  split
  · exact moves_respond _ _ _ _
  · next k hk =>
    split
    · exact moves_respond _ _ _ _
    · next hlen =>
      have hslot : s.ticket p k = .unused := by simpa using List.find?_some hk
      exact (Moves.one (.enqueue p k c (waitLimit limit) hslot (not_le.mp hlen) hq ht hw
        fun n => waitLimit_inRange)).trans (moves_respond _ _ _ _)

theorem moves_decideOpen {p : Port} {c : Claim} {f : Bool} {limit : BitVec 16} {s : State}
    (hq : s.charge p ≠ s.quota p) (ht : s.targetOfWindow c.window = some c.target)
    (hw : c.window.InRange 256) : Moves .opening s (decideOpen p c f limit s) := by
  unfold decideOpen
  split
  · next i hi => exact (Moves.one (.openGrant p c i hi hq ht hw)).trans (moves_respond _ _ _ _)
  · split
    · exact moves_queueOpen hq ht hw
    · exact moves_respond _ _ _ _

theorem moves_takeOpen (p : Port) (base count : BitVec 16) (cls wait : Byte) (limit : BitVec 16)
    (s : State) : Moves .opening s (takeOpen p base count cls wait limit s) := by
  unfold takeOpen
  split
  · next w c f hw _ _ =>
    split
    · exact moves_respond _ _ _ _
    · next t ht =>
      obtain ⟨htarget, hq⟩ := openTarget_ok ht
      exact moves_decideOpen hq htarget (windowOf_inRange hw)
  · exact moves_respond _ _ _ _

theorem stepped_takeCancel (p : Port) (slot : Byte) (s : State) : Stepped s (takeCancel p slot s) := by
  unfold takeCancel
  split
  · exact stepped_respond _ _ _ _
  · next k _ =>
    have hfree : s.ticket p k ≠ .waiting → ∀ st r,
        Stepped s (respond p st r (s.setTicket p k .unused)) := fun h st r =>
      .after ((Moves.one (.freeTicket p k h)).trans (moves_respond _ _ _ _))
    split
    · exact .after (((Moves.one (.leave p k _ (by simp))).trans (moves_scan _)).trans (moves_respond _ _ _ _))
    · next h => exact hfree (by simp [h]) _ _
    · next h => exact hfree (by simp [h]) _ _
    · exact stepped_respond _ _ _ _

theorem stepped_takeTicketRead (p : Port) (slot : Byte) (s : State) :
    Stepped s (takeTicketRead p slot s) := by
  unfold takeTicketRead
  split
  · exact stepped_respond _ _ _ _
  · next k _ =>
    split
    · next ha =>
      have hnot : s.ticket p k ≠ .waiting := fun h => by simp [h, Ticket.attends] at ha
      exact .after ((Moves.one (.freeTicket p k hnot)).trans (moves_respond _ _ _ _))
    · exact stepped_respond _ _ _ _

/-! ### Drains -/

theorem stepped_takeClosingDrainEnd (i : EntryIx) (s : State) : Stepped s (takeClosingDrainEnd i s) := by
  unfold takeClosingDrainEnd
  split
  · exact .refl s
  · next l hl =>
    split
    · next h =>
      obtain ⟨hs, h0⟩ := h
      exact .after ((Moves.one (.drain i l hl (by simp [Lease.draining, hs]) h0)).trans (moves_scan _))
    · exact .refl s

theorem stepped_takeRevokingDrainEnd (i : EntryIx) (s : State) :
    Stepped s (takeRevokingDrainEnd i s) := by
  unfold takeRevokingDrainEnd
  split
  · exact .refl s
  · next l hl =>
    split
    · next hs =>
      split
      · next h0 =>
        exact .after ((Moves.one (.drain i l hl (by simp [Lease.draining, hs]) h0)).trans (moves_scan _))
      · exact .refl s
    · exact .refl s

end Sys2Proof.Machine
end

section
/-! The remaining commands, and the step relation of the whole part. -/

namespace Sys2Proof.Machine

variable {g : Stage}

/-! ### Accesses -/

theorem moves_refuseAccess (p : Option Port) (f : AccessFault) (words : List Word) (s : State) :
    Moves g s (refuseAccess p f words s) := by
  unfold refuseAccess
  cases p with
  | none => exact moves_answerBus _ _
  | some p => exact (moves_enterFault p f s).trans (moves_answerBus _ _)

theorem ran_takeWrite {w : PostedWrite} {s : State} (h : Passes s w.port .write w.handle w.target) :
    Ran s (takeWrite w s) := by
  unfold takeWrite
  split
  · next hq => exact EngineRun.ran ⟨_, .one (.post w h hq), rfl⟩
  · exact .inl (.one (.stall w h))

theorem ran_takeRead {x : PendingRead} {s : State} (h : Passes s x.port .read x.handle x.target)
    (hx : x.deliver = true) : Ran s (takeRead x s) := EngineRun.ran ⟨_, .one (.takeRead x h hx), rfl⟩

theorem ran_takeAccess (a : WordAddr) (x : Access) (s : State) : Ran s (takeAccess a x s) := by
  unfold takeAccess
  split
  · next p hbus =>
    split
    · exact .inl .refl
    · next hno =>
      have hno : s.inHand = false := by simpa using hno
      unfold decideAccess
      split
      · exact .inl (moves_refuseAccess _ _ _ _)
      · next h t hpass =>
        cases x with
        | write b data => exact ran_takeWrite ⟨hbus, hno, _, hpass⟩
        | read b => exact ran_takeRead ⟨hbus, hno, _, hpass⟩ rfl
  · exact .inl (moves_refuseAccess _ _ _ _)

theorem moves_takeBrokenWrite (a : WordAddr) (s : State) : Moves g s (takeBrokenWrite a s) := by
  unfold takeBrokenWrite
  split
  · split
    · exact .refl
    · exact moves_refuseAccess _ _ _ _
  · exact moves_refuseAccess _ _ _ _

/-! ### The ends of an access -/

theorem ran_completeWrite (s : State) : Ran s (completeWrite s) := by
  unfold completeWrite
  split
  · split
    · exact ran_endWrite _ _ _
    · exact .inl .refl
  · exact .inl .refl

theorem ran_completeRead (data : List Word) (s : State) : Ran s (completeRead data s) := by
  unfold completeRead
  split
  · split
    · exact ran_endRead _ _ _ _
    · exact .inl .refl
  · exact .inl .refl

theorem ran_completeProbe (w : Word) (s : State) : Ran s (completeProbe w s) := by
  unfold completeProbe
  split
  · split
    · split
      · split
        · exact ran_endProbe _ _ _
        · exact .inl .refl
      · exact .inl .refl
    · exact .inl .refl
  · exact .inl .refl

theorem ran_timeOutWrite (n : Nat) (s : State) : Ran s (timeOutWrite n s) := by
  unfold timeOutWrite
  split
  · split
    · exact ran_endWrite _ _ _
    · exact .inl .refl
  · exact .inl .refl

theorem ran_timeOutRead (n : Nat) (s : State) : Ran s (timeOutRead n s) := by
  unfold timeOutRead
  split
  · split
    · exact ran_endRead _ _ _ _
    · exact .inl .refl
  · exact .inl .refl

theorem ran_timeOutProbe (s : State) : Ran s (timeOutProbe s) := by
  unfold timeOutProbe
  split
  · split
    · split
      · exact ran_endProbe _ _ _
      · exact .inl .refl
    · exact .inl .refl
  · exact .inl .refl

/-! ### Targets -/

theorem setProbe_probe (s : State) (t : TargetIx) : s.setProbe t (s.probe t) = s := by
  simp [State.setProbe, State.probe]

/-- R113: the page of a byte address. -/
theorem pageOf_eq (a : Addr) : pageOf a = a.toNat / 4096 := by
  have := a.isLt
  simp [pageOf, BitVec.extractLsb'_toNat, Nat.shiftRight_eq_div_pow]
  omega

/-- R150: settings that are read from their bytes are in range. -/
theorem settingsOf_inRange {a : TargetArgs} {t : TargetIx} {x : Settings}
    (h : settingsOf a = some (t, x)) : x.InRange := by
  unfold settingsOf at h
  split at h
  · next u span _ hspan =>
    split at h
    · next hr =>
      obtain ⟨hwait, hlow, hhigh, hmod, hterm⟩ := hr
      have hterm' := a.term.isLt
      have hrange := windowOf_inRange hspan
      dsimp only at h
      split at h
      · cases h
        exact ⟨hrange, hwait, hlow, hhigh, hmod, by dsimp only; omega, by dsimp only; omega, by simp⟩
      · split at h
        · next hp =>
          obtain ⟨-, halign, hpage⟩ := hp
          cases h
          refine ⟨hrange, hwait, hlow, hhigh, hmod, by dsimp only; omega, by dsimp only; omega, ?_⟩
          intro y hy
          obtain rfl := Option.some.inj hy
          rw [Window.hasPage, decide_eq_true_eq, pageOf_eq] at hpage
          exact ⟨halign, hpage.1, hpage.2⟩
        · cases h
    · cases h
  · cases h

/-- R153: a new record from settings in range. -/
theorem newRecord_record {s : State} {t : TargetIx} {x : Settings} (hr : x.InRange)
    (hover : s.overlapping t x.span = none) : NewRecord s t x.record where
  mapped := by
    unfold Settings.record
    split <;> simp
  inRange := fun y hy => Option.some.inj hy ▸ hr
  apart := fun y hy => Option.some.inj hy ▸ hover
  timeouts := by simp [Settings.record]

theorem newRecord_powerOn (s : State) (t : TargetIx) : NewRecord s t TargetRecord.powerOn where
  mapped := by simp [TargetRecord.powerOn]
  inRange := by simp [TargetRecord.powerOn]
  apart := by simp [TargetRecord.powerOn]
  timeouts := by simp [TargetRecord.powerOn]

/-- R153: the record and the refusals of a configuration that places no probe. -/
theorem moves_setRecord {s : State} {t : TargetIx} {r : TargetRecord} (hb : s.targetBusy t = false)
    (hr : NewRecord s t r) (hp : r.state ≠ .probing) :
    Moves g s (refuseWaiters (fun w => w.claim.target == t) .targetDown (s.setTarget t r)) := by
  have hprobe : (refuseWaiters (fun w => w.claim.target == t) .targetDown (s.setTarget t r)).probe t =
      s.probe t := (refuseWaiters_keeps _ _ _).probe t
  have hmove := Move.configure (g := g) t r (s.probe t) hb hr (.inl ⟨rfl, hp⟩)
  rw [← hprobe, setProbe_probe] at hmove
  exact .single hmove

theorem stepped_configure {t : TargetIx} {x : Settings} {s : State} (hb : s.targetBusy t = false)
    (hr : x.InRange) (ho : s.overlapping t x.span = none) : Stepped s (configure t x s) := by
  unfold configure
  dsimp only
  refine .ran (Ran.after (Ran.after ?_ (moves_scanIf _ _)) (moves_respond _ _ _ _))
  split
  · next y hy =>
    have hprobing : x.record.state = .probing := by simp [Settings.record, hy]
    exact EngineRun.ran ⟨_, .one (.configure t x.record _ hb (newRecord_record hr ho)
      (.inr ⟨rfl, rfl, hprobing⟩)), rfl⟩
  · next hy =>
    exact .inl <| moves_setRecord hb (newRecord_record hr ho) (by simp [Settings.record, hy])

theorem stepped_takeConfigureTarget (a : TargetArgs) (s : State) :
    Stepped s (takeConfigureTarget a s) := by
  unfold takeConfigureTarget
  split
  · exact stepped_respond _ _ _ _
  · next t x hset =>
    split
    · exact stepped_respond _ _ _ _
    · next hb =>
      split
      · exact stepped_respond _ _ _ _
      · next ho => exact stepped_configure (by simpa using hb) (settingsOf_inRange hset) ho

theorem stepped_takeReleaseTarget (target : Byte) (s : State) :
    Stepped s (takeReleaseTarget target s) := by
  unfold takeReleaseTarget
  split
  · exact stepped_respond _ _ _ _
  · next t _ =>
    split
    · exact stepped_respond _ _ _ _
    · next hb =>
      exact .after (((moves_setRecord (by simpa using hb) (newRecord_powerOn s t)
        (by simp [TargetRecord.powerOn])).trans (moves_scanIf _ _)).trans (moves_respond _ _ _ _))

theorem stepped_takeTargetStatus (target : Byte) (s : State) :
    Stepped s (takeTargetStatus target s) := by
  unfold takeTargetStatus
  split
  · exact stepped_respond _ _ _ _
  · exact stepped_respond _ _ _ _

/-! ### Supervisor commands -/

theorem stepped_takeSetQuota (port quota : Byte) (s : State) : Stepped s (takeSetQuota port quota s) := by
  unfold takeSetQuota
  split
  · exact stepped_respond _ _ _ _
  · split
    · exact stepped_respond _ _ _ _
    · split
      · exact stepped_respond _ _ _ _
      · next p _ hrange hcharge =>
        exact .after ((Moves.one (.quota p quota.toNat (by omega) (by omega) (by omega))).trans
          (moves_respond _ _ _ _))

theorem stepped_takeSetTimebase (k : Byte) (s : State) : Stepped s (takeSetTimebase k s) := by
  unfold takeSetTimebase
  split
  · exact stepped_respond _ _ _ _
  · next hk =>
    have hclock : Move .after s { s with clock := { s.clock with pendingK := some k.toNat } } :=
      .clock (keeps_clock s _) fun h => ⟨h.1, fun n hn => by cases hn; omega⟩
    exact .after ((Moves.one hclock).trans (moves_respond _ _ _ _))

theorem stepped_takeSetPriority (port level : Byte) (s : State) :
    Stepped s (takeSetPriority port level s) := by
  unfold takeSetPriority
  split
  · next p lv _ _ =>
    have hset : Moves .after s (s.setRequesting p { s.requesting p with level := lv }) :=
      moves_setRequesting (.inl rfl) id
    exact .after ((hset.trans (moves_contenderTest _)).trans (moves_respond _ _ _ _))
  · exact stepped_respond _ _ _ _

theorem stepped_takeSetHold (port : Byte) (hold : BitVec 16) (grace : Byte) (s : State) :
    Stepped s (takeSetHold port hold grace s) := by
  unfold takeSetHold
  split
  · next p _ =>
    split
    · next h =>
      obtain ⟨hhold, hgrace⟩ := h
      have hrange : 1 ≤ grace.toNat ∧ grace.toNat ≤ 255 := by
        have := grace.isLt
        have : grace.toNat ≠ 0 := fun e => hgrace (BitVec.eq_of_toNat_eq e)
        omega
      have hset : Moves .after s
          (s.setRequesting p { s.requesting p with hold := hold.toNat, grace := grace.toNat }) :=
        moves_setRequesting (.inl rfl) fun _ => ⟨hhold, hrange⟩
      exact .after (hset.trans (moves_respond _ _ _ _))
    · exact stepped_respond _ _ _ _
  · exact stepped_respond _ _ _ _

theorem isTombstoneOf_iff {p : Port} {l : Lease} :
    l.isTombstoneOf p = true ↔ (∃ r, l.state = .revoked r) ∧ l.holder = p := by
  unfold Lease.isTombstoneOf
  split <;> simp_all

theorem moves_purgeEntries (p : Port) (s : State) :
    Moves .before s { s with entries := vmap (Entry.purged p) s.entries } := by
  refine moves_mapEntries fun i => ?_
  unfold Entry.purged State.lease
  cases hl : (s.entry i).lease with
  | none => exact ⟨rfl, by simp [hl, Edited]⟩
  | some l =>
    dsimp only
    split
    · next h =>
      obtain ⟨⟨r, hr⟩, -⟩ := isTombstoneOf_iff.mp h
      exact ⟨rfl, rfl, by simp [hr], .inr (by simp [Lease.occupying, hr]), .inr (.inl (by simp [hr]))⟩
    · exact ⟨rfl, hl ▸ Edited.refl s i _⟩

theorem stepped_takePurgePort (port : Byte) (s : State) : Stepped s (takePurgePort port s) := by
  unfold takePurgePort
  split
  · exact stepped_respond _ _ _ _
  · exact .both (moves_purgeEntries _ s) ((moves_scanIf _ _).trans (moves_respond _ _ _ _))

theorem moves_refuseStalledCleared (s : State) : Moves g s (refuseStalledCleared s) := by
  unfold refuseStalledCleared
  split
  · exact .refl
  · split
    · exact moves_refuseStalled _ _
    · exact .refl

theorem refuseStalledCleared_keeps (s : State) :
    KeepsAllBut [.links, .stalled, .answer] s (refuseStalledCleared s) := by
  unfold refuseStalledCleared
  split
  · exact .refl _ s
  · split
    · exact refuseStalled_keeps _ s
    · exact .refl _ s

theorem refuseStalled_stalled (r : FaultReason) (s : State) : (refuseStalled r s).stalled = none := by
  unfold refuseStalled
  split
  · next h => exact h
  · rfl

/-- R81, R122: no write stays stalled under an entry that is revoked. -/
theorem refuseStalledCleared_notStalled {s : State} {i : EntryIx} {l : Lease} (hl : s.lease i = some l)
    (hr : l.running = true) : NotStalledUnder (refuseStalledCleared s) i := by
  intro w hw hi
  unfold refuseStalledCleared at hw
  split at hw
  · next h => simp [h] at hw
  · next v hv =>
    split at hw
    · simp [refuseStalled_stalled] at hw
    · next hno =>
      rw [hv] at hw
      obtain rfl := Option.some.inj hw
      subst hi
      exact hno (by simp [hl, hr])

theorem moves_clearEntries (s : State) : Moves g s
    { refuseStalledCleared s with
      entries := vmap Entry.cleared (refuseStalledCleared s).entries } := by
  refine (moves_refuseStalledCleared s).trans (moves_mapEntries fun i => ?_)
  have hlease : (refuseStalledCleared s).lease i = s.lease i := (refuseStalledCleared_keeps s).lease i
  unfold Entry.cleared
  cases hl : s.lease i with
  | none =>
    rw [hl] at hlease
    have hentry : ((refuseStalledCleared s).entry i).lease = none := hlease
    simp [hentry, hlease, Edited]
  | some l =>
    rw [hl] at hlease
    have hentry : ((refuseStalledCleared s).entry i).lease = some l := hlease
    rw [hlease, hentry]
    dsimp only
    split
    · next hr =>
      exact ⟨rfl, edited_beginDrain (running_iff.mp hr) ⟨rfl, rfl, rfl, rfl, le_rfl⟩
        (.inr ⟨.cleared, rfl, .inr (by simp)⟩) (.inl (refuseStalledCleared_notStalled hl hr))⟩
    · rw [hentry]; exact ⟨rfl, .refl _ i _⟩

theorem stepped_takeDirectoryClear (s : State) : Stepped s (takeDirectoryClear s) :=
  .after ((((moves_clearEntries s).tail (.refuse _ _)).trans (moves_scan _)).trans (moves_respond _ _ _ _))

theorem stepped_takeDirectoryRead (index : Byte) (s : State) : Stepped s (takeDirectoryRead index s) := by
  unfold takeDirectoryRead
  split
  · exact stepped_respond _ _ _ _
  · exact stepped_respond _ _ _ _

/-! ### Port resets -/

/-- R112: the port reset leaves its port without the bus. -/
theorem tgr_setRequester {s : State} {p q : Port} {r : Requester} :
    (s.setRequester p r).tgr q =
      if q = p then decide (r = .owner ∨ r = .yielding) else s.tgr q := by
  split
  · next h => subst h; unfold State.tgr; rw [requester_setRequester_self]; cases r <;> rfl
  · next h => unfold State.tgr; rw [requester_setRequester_of_ne s r h]

/-- R98: an arbitration grants the bus to a WAITING port only. -/
theorem arbitrate_cases (s : State) : arbitrate s = s ∨
    ∃ p, s.arb.bus = .free ∧ s.arbitrationChoice = some p ∧ s.requester p = .waiting ∧
      arbitrate s = grantBus p s := by
  unfold arbitrate
  split
  · next hb =>
    split
    · next p hp =>
      refine .inr ⟨p, hb, hp, ?_, rfl⟩
      obtain ⟨lv, -, hfind⟩ := List.exists_of_findSome?_eq_some hp
      have := List.find?_some hfind
      simp only [Bool.and_eq_true, beq_iff_eq] at this
      exact this.1
    · exact .inl rfl
  · exact .inl rfl

theorem requester_grantBus (p q : Port) (s : State) :
    (grantBus p s).requester q = if q = p then .owner else s.requester q := by
  split
  · next h => subst h; exact requester_setRequester_self s q .owner
  · next h => exact requester_setRequester_of_ne s .owner h

/-- R98: an arbitration changes the requester state of a WAITING port only. -/
theorem requester_arbitrate_of_ne {s : State} {q : Port} (h : s.requester q ≠ .waiting) :
    (arbitrate s).requester q = s.requester q := by
  rcases arbitrate_cases s with e | ⟨p, -, -, hp, e⟩
  · rw [e]
  · rw [e, requester_grantBus, if_neg]
    rintro rfl
    exact h hp

/-- R101, R106, R112: the state in which the grant is lost and the arbitration is yet to come. -/
def grantLost (p : Port) (r : Requester) (s : State) : State :=
  let s1 := discardRead p (s.setRequester p r)
  { s1 with
    arb := { s1.arb with
      bus := if s1.read.isSome then .handover else .free
      holdTimer := s1.arb.holdTimer.stop
      graceTimer := s1.arb.graceTimer.stop
      inForce := none
      overdue := false } }

theorem loseGrant_eq (p : Port) (r : Requester) (s : State) :
    loseGrant p r s = arbitrate (grantLost p r s) := rfl

theorem requester_grantLost (p q : Port) (r : Requester) (s : State) :
    (grantLost p r s).requester q = if q = p then r else s.requester q := by
  have harb : (discardRead p (s.setRequester p r)).arb = (s.setRequester p r).arb :=
    (discardRead_keeps p _).arb
  have hsame : (grantLost p r s).requester q = (s.setRequester p r).requester q := by
    simp [grantLost, State.requester, harb]
  rw [hsame]
  split
  · next h => subst h; exact requester_setRequester_self s q r
  · next h => exact requester_setRequester_of_ne s r h

theorem requester_loseGrant_self {p : Port} {r : Requester} (h : r ≠ .waiting) (s : State) :
    (loseGrant p r s).requester p = r := by
  have hlost : (grantLost p r s).requester p = r := by rw [requester_grantLost, if_pos rfl]
  rw [loseGrant_eq, requester_arbitrate_of_ne (by rwa [hlost]), hlost]

/-- R112: after a port reset its port is IDLE. -/
theorem requester_resetRequester (p : Port) (s : State) : (resetRequester p s).requester p = .idle := by
  unfold resetRequester
  split
  · next h => exact h
  · exact requester_setRequester_self s p .idle
  · exact requester_setRequester_self s p .idle
  · exact requester_loseGrant_self (by simp) _
  · exact requester_loseGrant_self (by simp) _

theorem moves_portResetEntries {p : Port} {s : State} (h : s.requester p = .idle) :
    Moves .before s { s with entries := vmap (Entry.portReset p) s.entries } := by
  have htgr : s.tgr p = false := by simp [State.tgr, h]
  refine moves_mapEntries fun i => ?_
  unfold Entry.portReset State.lease
  cases hl : (s.entry i).lease with
  | none => exact ⟨rfl, by simp [hl, Edited]⟩
  | some l =>
    dsimp only
    split
    · next hp =>
      refine ⟨rfl, ?_⟩
      have hu : Unstalled s i l := .inr (.inr (hp ▸ htgr))
      unfold Lease.portReset
      dsimp only
      split
      · next hs =>
        exact edited_beginDrain (.inl hs) ⟨rfl, rfl, rfl, rfl, le_rfl⟩ (.inr ⟨.portReset, rfl, .inl rfl⟩) hu
      · next hs =>
        exact edited_beginDrain (.inr hs) ⟨rfl, rfl, rfl, rfl, le_rfl⟩ (.inr ⟨.portReset, rfl, .inl rfl⟩) hu
      · exact edited_adjusted ⟨rfl, rfl, rfl⟩ (.inl rfl) (fun h h' => ⟨h, h'⟩) (.inl le_rfl)
      · next r b hs =>
        have hocc : l.occupying = true := by simp [Lease.occupying, hs]
        refine ⟨⟨rfl, rfl, rfl, fun _ => hocc, by simp [Lease.occupying], fun _ => .inl ?_, by simp [hs],
          fun h h' => ⟨h, h'⟩, .inl le_rfl⟩, .inl rfl, .inr hu⟩
        simp [Lease.draining, hs]
      · next r hs =>
        exact ⟨rfl, by simp [hs], .inr (by simp [Lease.occupying, hs]), hu⟩
    · exact ⟨rfl, hl ▸ Edited.refl s i _⟩

/-- R88: a port reset before its one scan. -/
def portResetMade (p : Port) (s : State) : State :=
  let s1 := resetRequester p s
  let s2 : State := { s1 with entries := vmap (Entry.portReset p) s1.entries }
  (removeWaiters p s2).setLink p (s2.link p).portReset

theorem portReset_eq (p : Port) (s : State) : portReset p s = scan (portResetMade p s) := rfl

theorem moves_portResetMade (p : Port) (s : State) : Moves .before s (portResetMade p s) :=
  ((moves_resetRequester p s).trans (moves_portResetEntries (requester_resetRequester p s))).tail
    (.clearPort p)

theorem stepped_takePrstLow (p : Port) (selected : Bool) (s : State) :
    Stepped s (takePrstLow p selected s) := by
  unfold takePrstLow
  split
  · exact .refl s
  · exact .both (moves_portResetMade p s) ((moves_scan _).tail (.link p _ (.of_link rfl rfl)))

theorem stepped_takePortReset (port : Byte) (s : State) : Stepped s (takePortReset port s) := by
  unfold takePortReset
  split
  · exact stepped_respond _ _ _ _
  · split
    · exact stepped_respond _ _ _ _
    · exact .both (moves_portResetMade _ s) ((moves_scan _).trans (moves_respond _ _ _ _))

theorem moves_releasePort (v : Levels) (s : State) (p : Port) : Moves g s (releasePort v s p) := by
  have hlines : Moves g s (s.setTrq p v.trqHigh[p]) := moves_setTrq p _ s
  exact hlines.tail (.link p ((s.link p).atRelease v.lselLow[p] v.prstLow[p]) (.of_link rfl rfl))

/-! ### Port link units -/

theorem moves_takeFirstByte (p : Port) (b : Byte) (s : State) : Moves g s (takeFirstByte p b s) := by
  unfold takeFirstByte
  dsimp only
  split
  · exact .single (.link p _ (.of_link rfl rfl))
  · exact .refl

theorem moves_takeFrame (p : Port) (frame : List Byte) (part : Bool) (s : State) :
    Moves g s (takeFrame p frame part s) := by
  unfold takeFrame
  split
  · exact .single (.link p _ (.of_responseReady rfl rfl))
  · exact .single (.link p _ (.of_responseReady rfl rfl))
  · exact .single (.link p _ (.of_responseReady rfl rfl))
  · exact .single (.link p _ ⟨rfl, by simp⟩)

theorem moves_takeRequest (p : Port) (bits : List Bool) (s : State) :
    Moves g s (takeRequest p bits s) := by
  unfold takeRequest
  dsimp only
  refine (moves_endTransfer p (idleBits bits.length) s).trans ?_
  split
  · exact moves_takeFrame _ _ _ _
  · exact .single (.link p _ (.of_link rfl rfl))

theorem moves_endRequestTransfer (p : Port) (bits : List Bool) (s : State) :
    Moves g s (endRequestTransfer p bits s) := by
  unfold endRequestTransfer
  dsimp only
  split
  · exact moves_endTransfer _ _ _
  · exact .refl
  · split
    · exact moves_takeRequest _ _ _
    · exact .refl
  · split
    · exact .refl
    · split
      · exact moves_endTransfer _ _ _
      · exact moves_takeRequest _ _ _

/-- R165, R169: the end of a read transfer consumes the response, or leaves the link state. -/
theorem afterRead_cases (chosen : Option Response) (cut : Bool) (n : Nat) (k : LinkState) :
    k.afterRead chosen cut n = k ∨ k.afterRead chosen cut n = .idle := by
  unfold LinkState.afterRead
  split
  · split
    · split
      · exact .inr rfl
      · exact .inl rfl
    · exact .inl rfl
  · exact .inl rfl

theorem moves_takeReadEnd (p : Port) (chosen : Option Response) (cut : Bool) (clocks n : Nat)
    (s : State) : Moves g s (takeReadEnd p chosen cut clocks n s) := by
  unfold takeReadEnd
  dsimp only
  refine (moves_endTransfer p (drivenBits chosen cut clocks n) s).tail (.link p _ ⟨rfl, fun tag r c h => ?_⟩)
  rcases afterRead_cases chosen cut clocks
    ((endTransfer p (drivenBits chosen cut clocks n) s).link p).link with e | e
  · exact e
  · rw [e] at h; cases h

theorem moves_endReadTransfer (p : Port) (clocks n : Nat) (s : State) :
    Moves g s (endReadTransfer p clocks n s) := by
  unfold endReadTransfer
  dsimp only
  split
  · exact moves_endTransfer _ _ _
  · exact .refl
  · exact moves_takeReadEnd _ _ _ _ _ _
  · split
    · exact moves_endTransfer _ _ _
    · exact moves_takeReadEnd _ _ _ _ _ _

end Sys2Proof.Machine
end

section
/-! Every command but POWER_ON is a step of moves. -/

namespace Sys2Proof.Machine

theorem stepped_whenLive {s t : State} {f : State → State} (hf : Stepped s (f s))
    (h : whenLive s f = .next t) : Stepped s t := by
  obtain rfl := Host.Outcome.next.inj h
  split
  · exact .refl s
  · exact hf

theorem moves_takeRise {g : Stage} (p : Port) (s : State) : Moves g s (takeRise p s) := by
  unfold takeRise
  split
  · next hi =>
    dsimp only
    split
    · next hb => exact .single (.rise p hi hb)
    · next hb => exact (Moves.one (.wait p hi hb)).trans (moves_contenderTest _)
  · exact .refl

section
variable {s t : State}

theorem stepped_execResetRelease {v : Levels} (h : execResetRelease v s = .next t) : Stepped s t := by
  obtain rfl := Host.Outcome.next.inj h
  split
  · have hhigh : Moves .after s { s with resetLow := false } :=
      moves_aside ((keeps_resetLow s false).mono (by simp))
    exact .after (hhigh.trans (moves_foldl (moves_releasePort v) allPorts _))
  · exact .refl s

theorem stepped_execPrstRelease {p : Port} (h : execPrstRelease p s = .next t) : Stepped s t :=
  stepped_whenLive (.after (.single (.link p { s.link p with prstLow := false } (.of_link rfl rfl)))) h

theorem stepped_execRequestTransfer {p : Port} {first rest : List Bool}
    (h : execRequestTransfer p first rest s = .next t) : Stepped s t := by
  unfold execRequestTransfer at h
  split at h
  · exact stepped_whenLive (.after (moves_endRequestTransfer _ _ _)) h
  · cases h

theorem stepped_execReadTransfer {p : Port} {clocks n : Nat}
    (h : execReadTransfer p clocks n s = .next t) : Stepped s t := by
  unfold execReadTransfer at h
  split at h
  · exact stepped_whenLive (.after (moves_endReadTransfer _ _ _ _)) h
  · cases h

theorem moves_execOpen {p : Port} (h : execOpen p s = .next t) : Moves .opening s t := by
  obtain rfl := Host.Outcome.next.inj h
  split
  · exact .refl
  · dsimp only
    split
    · exact moves_takeOpen _ _ _ _ _ _ _
    · exact .refl

theorem stepped_execRenew {p : Port} (h : execRenew p s = .next t) : Stepped s t := by
  refine stepped_whenLive ?_ h
  split
  · exact stepped_withHandle fun i l hl _ _ => stepped_actRenew hl
  · exact .refl s

theorem stepped_execClose {p : Port} (h : execClose p s = .next t) : Stepped s t := by
  refine stepped_whenLive ?_ h
  split
  · exact stepped_withHandle fun i l hl hp hc =>
      stepped_actClose hl (hp rfl) (check_close_eq_taken_iff.mp hc)
  · exact .refl s

theorem stepped_execPark {p : Port} (h : execPark p s = .next t) : Stepped s t := by
  refine stepped_whenLive ?_ h
  split
  · exact stepped_withHandle fun i l hl _ hc => stepped_actPark hl (check_park_eq_taken_iff.mp hc)
  · exact .refl s

theorem stepped_execUnpark {p : Port} (h : execUnpark p s = .next t) : Stepped s t := by
  refine stepped_whenLive ?_ h
  split
  · exact stepped_withHandle fun i l hl _ hc => stepped_actUnpark hl (check_unpark_eq_taken_iff.mp hc)
  · exact .refl s

theorem stepped_takeReshape (p : Port) (h : RawHandle) (base count : BitVec 16) (cls : Byte) (s : State) :
    Stepped s (takeReshape p h base count cls s) := by
  unfold takeReshape
  split
  · next w c hw _ =>
    exact stepped_withHandle fun i l hl _ hc =>
      stepped_actReshape (windowOf_inRange hw) hl (check_reshape_eq_taken_iff.mp hc)
  · exact stepped_respond _ _ _ _

theorem stepped_execReshape {p : Port} (h : execReshape p s = .next t) : Stepped s t := by
  refine stepped_whenLive ?_ h
  split
  exacts [stepped_takeReshape _ _ _ _ _ _, .refl s]

theorem stepped_execStatus {p : Port} (h : execStatus p s = .next t) : Stepped s t := by
  refine stepped_whenLive ?_ h
  split
  · exact stepped_withHandle fun i l hl _ _ => stepped_actStatus hl
  · exact .refl s

theorem stepped_execAckRevoke {p : Port} (h : execAckRevoke p s = .next t) : Stepped s t := by
  refine stepped_whenLive ?_ h
  split
  · refine stepped_withHandle fun i l hl _ hc => ?_
    obtain ⟨r, hr⟩ := check_ackRevoke_eq_taken_iff.mp hc
    exact stepped_actAckRevoke hl hr
  · exact .refl s

theorem stepped_execRevoke (h : execRevoke s = .next t) : Stepped s t := by
  refine stepped_whenLive ?_ h
  split
  · exact stepped_withHandle fun i l hl _ hc => stepped_actRevoke hl (check_revoke_eq_taken_iff.mp hc)
  · exact .refl s

theorem stepped_execPurgeHandle (h : execPurgeHandle s = .next t) : Stepped s t := by
  refine stepped_whenLive ?_ h
  split
  · refine stepped_withHandle fun i l hl _ hc => ?_
    obtain ⟨r, hr⟩ := check_purge_eq_taken_iff.mp hc
    exact stepped_actPurge hl hr
  · exact .refl s

theorem stepped_execCancel {p : Port} (h : execCancel p s = .next t) : Stepped s t := by
  refine stepped_whenLive ?_ h
  split
  exacts [stepped_takeCancel _ _ _, .refl s]

theorem stepped_execTicketRead {p : Port} (h : execTicketRead p s = .next t) : Stepped s t := by
  refine stepped_whenLive ?_ h
  split
  exacts [stepped_takeTicketRead _ _ _, .refl s]

theorem stepped_execConfigureTarget (h : execConfigureTarget s = .next t) : Stepped s t := by
  refine stepped_whenLive ?_ h
  split
  exacts [stepped_takeConfigureTarget _ _, .refl s]

theorem stepped_execReleaseTarget (h : execReleaseTarget s = .next t) : Stepped s t := by
  refine stepped_whenLive ?_ h
  split
  exacts [stepped_takeReleaseTarget _ _, .refl s]

theorem stepped_execTargetStatus (h : execTargetStatus s = .next t) : Stepped s t := by
  refine stepped_whenLive ?_ h
  split
  exacts [stepped_takeTargetStatus _ _, .refl s]

theorem stepped_execSetQuota (h : execSetQuota s = .next t) : Stepped s t := by
  refine stepped_whenLive ?_ h
  split
  exacts [stepped_takeSetQuota _ _ _, .refl s]

theorem stepped_execSetPriority (h : execSetPriority s = .next t) : Stepped s t := by
  refine stepped_whenLive ?_ h
  split
  exacts [stepped_takeSetPriority _ _ _, .refl s]

theorem stepped_execSetHold (h : execSetHold s = .next t) : Stepped s t := by
  refine stepped_whenLive ?_ h
  split
  exacts [stepped_takeSetHold _ _ _ _, .refl s]

theorem stepped_execSetTimebase (h : execSetTimebase s = .next t) : Stepped s t := by
  refine stepped_whenLive ?_ h
  split
  exacts [stepped_takeSetTimebase _ _, .refl s]

theorem stepped_execPurgePort (h : execPurgePort s = .next t) : Stepped s t := by
  refine stepped_whenLive ?_ h
  split
  exacts [stepped_takePurgePort _ _, .refl s]

theorem stepped_execDirectoryClear (h : execDirectoryClear s = .next t) : Stepped s t := by
  refine stepped_whenLive ?_ h
  split
  exacts [stepped_takeDirectoryClear _, .refl s]

theorem stepped_execPortReset (h : execPortReset s = .next t) : Stepped s t := by
  refine stepped_whenLive ?_ h
  split
  exacts [stepped_takePortReset _ _, .refl s]

theorem stepped_execDirectoryRead (h : execDirectoryRead s = .next t) : Stepped s t := by
  refine stepped_whenLive ?_ h
  split
  exacts [stepped_takeDirectoryRead _ _, .refl s]

theorem stepped_execTrqRise {p : Port} (h : execTrqRise p s = .next t) : Stepped s t := by
  refine stepped_whenLive ?_ h
  split
  · exact .refl s
  · split
    · exact .after (moves_setTrq _ _ _)
    · exact .after ((moves_setTrq p true s).trans (moves_takeRise p _))

theorem stepped_execTrqFall {p : Port} (h : execTrqFall p s = .next t) : Stepped s t := by
  refine stepped_whenLive ?_ h
  split
  · split
    · exact .after (moves_setTrq _ _ _)
    · exact .after ((moves_setTrq p false s).trans (moves_takeFall p _))
  · exact .refl s

theorem stepped_execAccess {a : WordAddr} {x : Access} (h : execAccess a x s = .next t) :
    Stepped s t := by
  unfold execAccess at h
  split at h
  · exact stepped_whenLive (.ran (ran_takeAccess _ _ _)) h
  · cases h

theorem stepped_execBrokenWrite {a : WordAddr} {b : Burst} {n : Nat}
    (h : execBrokenWrite a b n s = .next t) : Stepped s t := by
  unfold execBrokenWrite at h
  split at h
  · exact stepped_whenLive (.after (moves_takeBrokenWrite _ _)) h
  · cases h

end

/-- Every command but POWER_ON and OPEN is a step of moves. -/
theorem exec_stepped {c : Instr} {s t : State} (hc : c ≠ .powerOn) (ho : ∀ p, c ≠ .openLease p)
    (h : exec c s = .next t) : Stepped s t := by
  cases c with
  | powerOn => exact absurd rfl hc
  | resetRelease v => exact stepped_execResetRelease h
  | prstLow p selected => exact stepped_whenLive (stepped_takePrstLow p selected s) h
  | prstRelease p => exact stepped_execPrstRelease h
  | requestTransfer p first rest => exact stepped_execRequestTransfer h
  | readTransfer p clocks n => exact stepped_execReadTransfer h
  | openLease p => exact absurd rfl (ho p)
  | renew p => exact stepped_execRenew h
  | close p => exact stepped_execClose h
  | park p => exact stepped_execPark h
  | unpark p => exact stepped_execUnpark h
  | reshape p => exact stepped_execReshape h
  | status p => exact stepped_execStatus h
  | ackRevoke p => exact stepped_execAckRevoke h
  | cancel p => exact stepped_execCancel h
  | ticketRead p => exact stepped_execTicketRead h
  | attention p tag => exact stepped_whenLive (.after (moves_endRequestTransfer p _ s)) h
  | faultRead p tag => exact stepped_whenLive (.after (moves_endRequestTransfer p _ s)) h
  | configureTarget => exact stepped_execConfigureTarget h
  | releaseTarget => exact stepped_execReleaseTarget h
  | targetStatus => exact stepped_execTargetStatus h
  | setQuota => exact stepped_execSetQuota h
  | setPriority => exact stepped_execSetPriority h
  | setHold => exact stepped_execSetHold h
  | setTimebase => exact stepped_execSetTimebase h
  | revoke => exact stepped_execRevoke h
  | purgeHandle => exact stepped_execPurgeHandle h
  | purgePort => exact stepped_execPurgePort h
  | directoryClear => exact stepped_execDirectoryClear h
  | portReset => exact stepped_execPortReset h
  | directoryRead => exact stepped_execDirectoryRead h
  | tick => exact stepped_whenLive (.after (moves_takeTick s)) h
  | termBoundary i => exact stepped_whenLive (.after (moves_takeBoundary i s)) h
  | waitExpired p k => exact stepped_whenLive (.after (moves_takeWaitExpiry p k s)) h
  | holdExpiry => exact stepped_whenLive (.after (moves_takeHoldExpiry s)) h
  | preemption => exact stepped_whenLive (.after (moves_takePreemption s)) h
  | trqRise p => exact stepped_execTrqRise h
  | trqFall p => exact stepped_execTrqFall h
  | access a x => exact stepped_execAccess h
  | brokenWrite a b n => exact stepped_execBrokenWrite h
  | stalledWriteAdmission =>
    exact stepped_whenLive (f := fun s => startNext (admitStalled s))
      (.ran (EngineRun.ran ⟨_, .one .admitStalled, rfl⟩)) h
  | accessStart => exact stepped_whenLive (.ran (EngineRun.ran ⟨s, .refl, rfl⟩)) h
  | writeCompletion => exact stepped_whenLive (.ran (ran_completeWrite s)) h
  | readCompletion data => exact stepped_whenLive (.ran (ran_completeRead data s)) h
  | probeCompletion w => exact stepped_whenLive (.ran (ran_completeProbe w s)) h
  | writeTimeout n => exact stepped_whenLive (.ran (ran_timeOutWrite n s)) h
  | readTimeout n => exact stepped_whenLive (.ran (ran_timeOutRead n s)) h
  | probeTimeout => exact stepped_whenLive (.ran (ran_timeOutProbe s)) h
  | closingDrainEnd i => exact stepped_whenLive (stepped_takeClosingDrainEnd i s) h
  | revokingDrainEnd i => exact stepped_whenLive (stepped_takeRevokingDrainEnd i s) h
  | firstByteClocked p b => exact stepped_whenLive (.after (moves_takeFirstByte p b s)) h

/-- The state with the rest of the queue of commands. -/
def State.withPending (s : State) (rest : List Instr) : State := { s with pending := rest }

/-- Every step is a step of moves, an OPEN, or a POWER_ON. -/
theorem step_stepped {s t : State} (h : step s = .next t) :
    ∃ rest, Stepped (s.withPending rest) t ∨
      (∃ p, s.pending = .openLease p :: rest ∧ execOpen p (s.withPending rest) = .next t) ∨
      (s.pending = .powerOn :: rest ∧ t = { State.inReset with periods := s.periods, pending := rest }) := by
  cases hp : s.pending with
  | nil =>
    rw [step_nil hp] at h
    obtain rfl := Host.Outcome.next.inj h
    have hsame : s.withPending [] = s := by rw [State.withPending, ← hp]
    refine ⟨[], .inl ?_⟩
    rw [hsame]
    exact .ran (ran_refPeriod s)
  | cons c rest =>
    rw [step_cons hp] at h
    refine ⟨rest, ?_⟩
    by_cases hc : c = .powerOn
    · subst hc
      exact .inr (.inr ⟨rfl, (Host.Outcome.next.inj h).symm⟩)
    · by_cases ho : ∃ p, c = .openLease p
      · obtain ⟨p, rfl⟩ := ho
        exact .inr (.inl ⟨p, rfl, h⟩)
      · exact .inl (exec_stepped hc (fun p e => ho ⟨p, e⟩) h)

/-- A law that power-on has, that does not look at the queue of commands and that every move keeps, is kept
by every step. -/
theorem keptByStep_of_moves {P : State → Prop}
    (hpower : ∀ n rest, P { State.inReset with periods := n, pending := rest })
    (hpending : ∀ s rest, P s → P (s.withPending rest)) (hmove : ∀ g s t, Move g s t → P s → P t) :
    KeptByStep P := by
  intro s t hs h
  obtain ⟨rest, hstepped | ⟨p, -, ho⟩ | ⟨-, rfl⟩⟩ := step_stepped h
  · exact hstepped.keeps hmove (hpending s rest hs)
  · exact (moves_execOpen ho).keeps (hmove _) (hpending s rest hs)
  · exact hpower s.periods rest

end Sys2Proof.Machine
end

section
/-! What the operations on the wait list, the engine and a lost target do, record by record. -/

namespace Sys2Proof.Machine

/-! ### Leases that go on -/

/-- A lease that goes on from another one of the same grant. -/
structure Lease.Follows (term : Nat) (l m : Lease) : Prop where
  holder : m.holder = l.holder
  claim : m.claim = l.claim
  occupying : m.occupying = true → l.occupying = true
  balance : -8 ≤ l.balance → l.balance ≤ 8 → -8 ≤ m.balance ∧ m.balance ≤ 8
  interval : m.interval ≤ l.interval ∨ m.interval ≤ term

theorem Lease.Edits.follows {n : Nat} {l m : Lease} (h : l.Edits n m) : l.Follows n m :=
  ⟨h.holder, h.claim, h.occupying, h.balance, h.interval⟩

theorem Lease.Follows.trans {n : Nat} {l m k : Lease} (h : l.Follows n m) (h' : m.Follows n k) :
    l.Follows n k where
  holder := h'.holder.trans h.holder
  claim := h'.claim.trans h.claim
  occupying := fun ho => h.occupying (h'.occupying ho)
  balance := fun hlow hhigh => h'.balance (h.balance hlow hhigh).1 (h.balance hlow hhigh).2
  interval := by have := h.interval; have := h'.interval; omega

/-- A lease whose terms are the same and whose state does not begin to occupy. -/
theorem Lease.Follows.of_terms {n : Nat} {l m : Lease} (hh : m.holder = l.holder) (hc : m.claim = l.claim)
    (hb : m.balance = l.balance) (hi : m.interval = l.interval)
    (ho : m.occupying = true → l.occupying = true) : l.Follows n m :=
  ⟨hh, hc, ho, by rw [hb]; exact fun h h' => ⟨h, h'⟩, .inl hi.le⟩

theorem Lease.Follows.refl (n : Nat) (l : Lease) : l.Follows n l := .of_terms rfl rfl rfl rfl id

/-! ### Refused waiters -/

theorem ticket_foldl_setTicket (x : Ticket) (ws : List Waiter) (s : State) (p : Port) (k : Slot) :
    (ws.foldl (fun s w => s.setTicket w.port w.slot x) s).ticket p k =
      if ws.any (fun w => w.port == p && w.slot == k) then x else s.ticket p k := by
  induction ws generalizing s with
  | nil => rfl
  | cons w ws ih =>
    rw [List.foldl_cons, ih, List.any_cons]
    by_cases h : p = w.port ∧ k = w.slot
    · obtain ⟨rfl, rfl⟩ := h
      simp
    · rw [ticket_setTicket_of_ne s x h]
      have : (w.port == p && w.slot == k) = false := by
        rw [Bool.and_eq_false_iff, beq_eq_false_iff_ne, beq_eq_false_iff_ne]
        by_contra hc
        push Not at hc
        exact h ⟨hc.1.symm, hc.2.symm⟩
      simp [this]

theorem link_foldl_setTicket (x : Ticket) (ws : List Waiter) (s : State) (p : Port) :
    (ws.foldl (fun s w => s.setTicket w.port w.slot x) s).link p = { s.link p with
      tickets := ((ws.foldl (fun s w => s.setTicket w.port w.slot x) s).link p).tickets } := by
  induction ws generalizing s with
  | nil => rfl
  | cons w ws ih =>
    rw [List.foldl_cons, ih]
    by_cases h : p = w.port
    · subst h; simp
    · rw [link_setTicket_of_ne s _ _ h]

section
variable (f : Waiter → Bool) (r : RefuseReason) (s : State)

/-- R42, R43: the refused requests leave the list. -/
theorem waitList_refuseWaiters : (refuseWaiters f r s).waitList = s.waitList.filter fun w => !f w :=
  (foldl_keeps (may := [.links]) (fun s _ => keeps_setTicket s _ _ _) _ _).waitList

/-- R42, R43: the tickets of the refused requests are REFUSED, the others stay. -/
theorem ticket_refuseWaiters (p : Port) (k : Slot) : (refuseWaiters f r s).ticket p k =
    if s.waitList.any (fun w => f w && w.port == p && w.slot == k) then .refused r
    else s.ticket p k := by
  unfold refuseWaiters
  rw [ticket_foldl_setTicket, List.any_filter]
  simp only [Bool.and_assoc]
  rfl

theorem link_refuseWaiters (p : Port) : (refuseWaiters f r s).link p =
    { s.link p with tickets := ((refuseWaiters f r s).link p).tickets } :=
  link_foldl_setTicket _ _ _ p

end

/-! ### Posted writes of a lost target -/

/-- R14: a lease with WRITE_LOST in its marks if `b`. -/
def Lease.withLost (b : Bool) (l : Lease) : Lease :=
  { l with marks := { l.marks with writeLost := l.marks.writeLost || b } }

theorem Lease.withLost_false (l : Lease) : l.withLost false = l := by simp [Lease.withLost]

theorem Lease.withLost_withLost (a b : Bool) (l : Lease) :
    (l.withLost a).withLost b = l.withLost (a || b) := by simp [Lease.withLost, Bool.or_assoc]

/-- R14: an entry with WRITE_LOST in the marks of its lease if `b`. -/
def Entry.withLost (b : Bool) (e : Entry) : Entry := { e with lease := e.lease.map (·.withLost b) }

@[simp] theorem Entry.withLost_generation (b : Bool) (e : Entry) :
    (e.withLost b).generation = e.generation := rfl

@[simp] theorem Entry.withLost_lease (b : Bool) (e : Entry) :
    (e.withLost b).lease = e.lease.map (·.withLost b) := rfl

theorem Entry.withLost_false (e : Entry) : e.withLost false = e := by
  obtain ⟨g, _ | l⟩ := e <;> simp [Entry.withLost, Lease.withLost]

theorem Entry.withLost_withLost (a b : Bool) (e : Entry) :
    (e.withLost a).withLost b = e.withLost (a || b) := by
  simp [Entry.withLost, Function.comp_def, Lease.withLost_withLost]

/-- R160: a discarded write marks its lease. -/
theorem entry_discardWrite (s : State) (w : PostedWrite) (i : EntryIx) :
    (discardWrite s w).entry i = (s.entry i).withLost (w.handle.index == i) := by
  have hentry : ∀ j, (enterFault w.port (w.fault .writeLost) s).entry j = s.entry j :=
    (enterFault_keeps _ _ s).entry
  have hlease : (enterFault w.port (w.fault .writeLost) s).lease w.handle.index = s.lease w.handle.index :=
    (enterFault_keeps _ _ s).lease _
  unfold discardWrite
  dsimp only
  rw [hlease]
  by_cases hi : i = w.handle.index
  · subst hi
    rw [beq_self_eq_true]
    cases hl : s.lease w.handle.index with
    | none =>
      rw [State.lease] at hl
      have hfree : s.entry w.handle.index = { generation := (s.entry w.handle.index).generation, lease := none } := by
        rw [← hl]
      rw [hentry, hfree]
      rfl
    | some l =>
      rw [State.lease] at hl
      simp [hentry, Entry.withLost, hl, Lease.withLost]
  · have hne : (w.handle.index == i) = false := by simpa using Ne.symm hi
    rw [hne, Entry.withLost_false]
    split
    · exact hentry i
    · rw [entry_setLease_of_ne _ _ hi, hentry]

theorem entry_foldl_discardWrite (ws : List PostedWrite) (s : State) (i : EntryIx) :
    (ws.foldl discardWrite s).entry i = (s.entry i).withLost (ws.any fun w => w.handle.index == i) := by
  induction ws generalizing s with
  | nil => exact (Entry.withLost_false _).symm
  | cons w ws ih =>
    rw [List.foldl_cons, ih, entry_discardWrite, Entry.withLost_withLost, List.any_cons]

/-- R145, R160: the queued writes for the target are marked lost in their leases. -/
theorem entry_discardWrites (t : TargetIx) (s : State) (i : EntryIx) :
    (discardWrites t s).entry i =
      (s.entry i).withLost (s.queue.any fun w => w.target == t && w.handle.index == i) := by
  unfold discardWrites
  rw [entry_foldl_discardWrite, List.any_filter]
  rfl

theorem queue_discardWrites (t : TargetIx) (s : State) :
    (discardWrites t s).queue = s.queue.filter fun w => !(w.target == t) :=
  (foldl_keeps (fun s w => discardWrite_keeps s w) _ _).queue

/-- R128: the faults of a list are entered one after the other. -/
theorem link_discardWrite (s : State) (w : PostedWrite) (p : Port) :
    (discardWrite s w).link p = { s.link p with
      fault := if w.port = p then (s.link p).fault.enter (w.fault .writeLost) else (s.link p).fault } := by
  have hlinks : (discardWrite s w).link p = (enterFault w.port (w.fault .writeLost) s).link p := by
    unfold discardWrite
    dsimp only
    split <;> rfl
  rw [hlinks]
  obtain ⟨hself, hother⟩ := enterFault_entered w.port (w.fault .writeLost) s
  by_cases h : p = w.port
  · subst h; simp [hself]
  · simp [hother p h, Ne.symm h]

/-! ### The stages of a loss step -/

section
variable (t : TargetIx) (f : LastFault) (s : State)

/-- R160: the lost target's record. -/
def State.offline : State := s.setTarget t { s.target t with state := .offline, lastFault := f }

/-- R160.1 to R160.3: the accesses for the lost target are gone. -/
def accessesLost : State := refuseStalledFor t (dropRead t (discardWrites t (s.offline t f)))

/-- R160.4, R160.5: the leases on the lost target are settled and their CLOSEs answered. -/
def leasesLost : State :=
  { answerLostCloses t (accessesLost t f s) with
    entries := vmap (Entry.settleLost t) (answerLostCloses t (accessesLost t f s)).entries }

theorem loseTarget_eq : loseTarget t f s =
    refuseWaiters (fun w => w.claim.target == t) .targetDown (leasesLost t f s) := rfl

theorem accessesLost_keeps :
    KeepsAllBut [.directory, .links, .arbiter, .stalled, .answer, .queue, .read, .targets] s
      (accessesLost t f s) :=
  ((keeps_setTarget s t _).mono (by simp)).trans <| ((discardWrites_keeps t _).mono (by simp)).trans <|
    ((dropRead_keeps t _).mono (by simp)).trans ((refuseStalledFor_keeps t _).mono (by simp))

theorem leasesLost_keeps : KeepsAllBut [.directory, .links] (accessesLost t f s) (leasesLost t f s) :=
  ((answerLostCloses_keeps t _).mono (by simp)).trans ((keeps_entries _ _).mono (by simp))

theorem loseTarget_from_leases :
    KeepsAllBut [.links, .waitList] (leasesLost t f s) (loseTarget t f s) := refuseWaiters_keeps _ _ _

theorem target_loseTarget_self :
    (loseTarget t f s).target t = { s.target t with state := .offline, lastFault := f } := by
  have hkeeps : KeepsAllBut [.directory, .links, .waitList, .arbiter, .stalled, .answer, .queue, .read]
      (s.offline t f) (loseTarget t f s) :=
    ((discardWrites_keeps t _).mono (by simp)).trans <| ((dropRead_keeps t _).mono (by simp)).trans <|
      ((refuseStalledFor_keeps t _).mono (by simp)).trans <| ((leasesLost_keeps t f s).mono (by simp)).trans
        ((loseTarget_from_leases t f s).mono (by simp))
  rw [hkeeps.target t]
  exact target_setTarget_self s t _

theorem target_loseTarget_of_ne {v : TargetIx} (h : v ≠ t) :
    (loseTarget t f s).target v = s.target v := by
  have hkeeps : KeepsAllBut [.directory, .links, .waitList, .arbiter, .stalled, .answer, .queue, .read]
      (s.offline t f) (loseTarget t f s) :=
    ((discardWrites_keeps t _).mono (by simp)).trans <| ((dropRead_keeps t _).mono (by simp)).trans <|
      ((refuseStalledFor_keeps t _).mono (by simp)).trans <| ((leasesLost_keeps t f s).mono (by simp)).trans
        ((loseTarget_from_leases t f s).mono (by simp))
  rw [hkeeps.target v]
  exact target_setTarget_of_ne s _ h

theorem waitList_loseTarget :
    (loseTarget t f s).waitList = s.waitList.filter fun w => !(w.claim.target == t) := by
  rw [loseTarget_eq, waitList_refuseWaiters, (leasesLost_keeps t f s).waitList,
    (accessesLost_keeps t f s).waitList]

theorem ticket_loseTarget (p : Port) (k : Slot) : (loseTarget t f s).ticket p k =
    if s.waitList.any (fun w => w.claim.target == t && w.port == p && w.slot == k) then
      .refused .targetDown
    else (leasesLost t f s).ticket p k := by
  rw [loseTarget_eq, ticket_refuseWaiters, (leasesLost_keeps t f s).waitList,
    (accessesLost_keeps t f s).waitList]

/-- R160: what becomes of the entries. -/
theorem entry_loseTarget (i : EntryIx) : (loseTarget t f s).entry i =
    Entry.settleLost t
      ((s.entry i).withLost (s.queue.any fun w => w.target == t && w.handle.index == i)) := by
  have hleases : (leasesLost t f s).entry i =
      Entry.settleLost t ((answerLostCloses t (accessesLost t f s)).entry i) := getElem_vmap _ _ i
  have hkeeps : KeepsAllBut [.links, .arbiter, .stalled, .answer, .read]
      (discardWrites t (s.offline t f)) (answerLostCloses t (accessesLost t f s)) :=
    ((dropRead_keeps t _).mono (by simp)).trans <| ((refuseStalledFor_keeps t _).mono (by simp)).trans
      ((answerLostCloses_keeps t _).mono (by simp))
  rw [(loseTarget_from_leases t f s).entry i, hleases, hkeeps.entry i, entry_discardWrites]
  rfl

theorem queue_loseTarget : (loseTarget t f s).queue = s.queue.filter fun w => !(w.target == t) := by
  have hkeeps : KeepsAllBut [.directory, .links, .waitList, .arbiter, .stalled, .answer, .read]
      (discardWrites t (s.offline t f)) (loseTarget t f s) :=
    ((dropRead_keeps t _).mono (by simp)).trans <| ((refuseStalledFor_keeps t _).mono (by simp)).trans <|
      ((leasesLost_keeps t f s).mono (by simp)).trans ((loseTarget_from_leases t f s).mono (by simp))
  rw [hkeeps.queue, queue_discardWrites]
  rfl

end

/-! ### The pending read of a lost target -/

/-- R102: the end of the read leaves HANDOVER for an arbitration. -/
theorem arb_readEnded (s : State) : (readEnded s).arb =
    if s.arb.bus = .handover then (arbitrate { s with arb := { s.arb with bus := .free } }).arb
    else s.arb := by
  unfold readEnded
  split
  · next h => simp [h]
  · next h =>
    split
    · next h' => exact absurd h' h
    · rfl

theorem arb_grantBus_congr {s t : State} (h : t.arb = s.arb) (p : Port) :
    (grantBus p t).arb = (grantBus p s).arb := by
  cases t
  subst h
  rfl

/-- An arbitration looks at the arbiter only. -/
theorem arb_arbitrate_congr {s t : State} (h : t.arb = s.arb) : (arbitrate t).arb = (arbitrate s).arb := by
  have hchoice : t.arbitrationChoice = s.arbitrationChoice := by
    simp only [State.arbitrationChoice, State.requester, State.requesting, h]
  unfold arbitrate
  rw [h, hchoice]
  split
  · split
    · exact arb_grantBus_congr h _
    · exact h
  · exact h

theorem arb_readEnded_congr {s t : State} (h : t.arb = s.arb) : (readEnded t).arb = (readEnded s).arb := by
  rw [arb_readEnded, arb_readEnded, h]
  split
  · exact arb_arbitrate_congr (by simp)
  · rfl

theorem read_dropRead (t : TargetIx) (s : State) :
    (dropRead t s).read = s.read.filter fun x => !(x.target == t) := by
  unfold dropRead
  split
  · next h => rw [h]; rfl
  · next x hx =>
    split
    · next ht =>
      dsimp only
      rw [(readEnded_keeps _).read, hx]
      split <;> simp [answerBus, enterFault, Option.filter, ht]
    · next ht => simp [hx, Option.filter, ht]

/-- R160.2: the arbiter is told of a read that the loss removes. -/
theorem arb_dropRead (t : TargetIx) (s : State) : (dropRead t s).arb =
    if s.read.any (fun x => x.target == t) then (readEnded s).arb else s.arb := by
  unfold dropRead
  split
  · next h => simp [h]
  · next x hx =>
    split
    · next ht =>
      dsimp only
      simp only [hx, Option.any_some, ht, beq_self_eq_true, if_true]
      refine arb_readEnded_congr ?_
      split <;> rfl
    · next ht => simp [hx, ht]

theorem stalled_refuseStalledFor (t : TargetIx) (s : State) :
    (refuseStalledFor t s).stalled = s.stalled.filter fun w => !(w.target == t) := by
  unfold refuseStalledFor
  split
  · next h => simp [h]
  · next w hw =>
    split
    · next ht => rw [refuseStalled_stalled]; simp [hw, Option.filter, ht]
    · next ht => simp [hw, Option.filter, ht]

section
variable (t : TargetIx) (f : LastFault) (s : State)

theorem read_loseTarget : (loseTarget t f s).read = s.read.filter fun x => !(x.target == t) := by
  have hbefore : KeepsAllBut [.directory, .links, .queue, .targets] s (discardWrites t (s.offline t f)) :=
    ((keeps_setTarget s t _).mono (by simp)).trans ((discardWrites_keeps t _).mono (by simp))
  have hafter : KeepsAllBut [.directory, .links, .waitList, .stalled, .answer]
      (dropRead t (discardWrites t (s.offline t f))) (loseTarget t f s) :=
    ((refuseStalledFor_keeps t _).mono (by simp)).trans <| ((leasesLost_keeps t f s).mono (by simp)).trans
      ((loseTarget_from_leases t f s).mono (by simp))
  rw [hafter.read, read_dropRead, hbefore.read]

theorem arb_loseTarget : (loseTarget t f s).arb =
    if s.read.any (fun x => x.target == t) then (readEnded s).arb else s.arb := by
  have hbefore : KeepsAllBut [.directory, .links, .queue, .targets] s (discardWrites t (s.offline t f)) :=
    ((keeps_setTarget s t _).mono (by simp)).trans ((discardWrites_keeps t _).mono (by simp))
  have hafter : KeepsAllBut [.directory, .links, .waitList, .stalled, .answer]
      (dropRead t (discardWrites t (s.offline t f))) (loseTarget t f s) :=
    ((refuseStalledFor_keeps t _).mono (by simp)).trans <| ((leasesLost_keeps t f s).mono (by simp)).trans
      ((loseTarget_from_leases t f s).mono (by simp))
  rw [hafter.arb, arb_dropRead, hbefore.read, hbefore.arb, arb_readEnded_congr hbefore.arb]

theorem stalled_loseTarget : (loseTarget t f s).stalled = s.stalled.filter fun w => !(w.target == t) := by
  have hbefore : KeepsAllBut [.directory, .links, .queue, .targets, .answer, .read, .arbiter] s
      (dropRead t (discardWrites t (s.offline t f))) :=
    ((keeps_setTarget s t _).mono (by simp)).trans <| ((discardWrites_keeps t _).mono (by simp)).trans
      ((dropRead_keeps t _).mono (by simp))
  rw [(loseTarget_from_leases t f s).stalled, (leasesLost_keeps t f s).stalled, accessesLost,
    stalled_refuseStalledFor, hbefore.stalled]

end

end Sys2Proof.Machine
end

section
/-! How the directory goes on in a move: every lease follows from the lease that its entry held, but for a
grant and a RESHAPE; then the law of R5. -/

namespace Sys2Proof.Machine

/-! ### Leases that go on through the engine's ends and a loss -/

theorem Lease.follows_withLost (n : Nat) (b : Bool) (l : Lease) : l.Follows n (l.withLost b) :=
  .of_terms rfl rfl rfl rfl id

theorem Lease.follows_drained {n : Nat} {l m : Lease} (h : l.drained = some m) : l.Follows n m := by
  unfold Lease.drained at h
  split at h
  · cases h
  · next r b hs =>
    split at h
    · cases h
    · obtain rfl := Option.some.inj h
      exact .of_terms rfl rfl rfl rfl (by simp [Lease.occupying])
  · obtain rfl := Option.some.inj h
    exact .refl n l

theorem Lease.follows_settleLost {n : Nat} {l m : Lease} (h : l.settleLost = some m) :
    l.Follows n m := by
  unfold Lease.settleLost at h
  dsimp only at h
  split at h
  · obtain rfl := Option.some.inj h
    exact .of_terms rfl rfl rfl rfl (by simp [Lease.occupying])
  · obtain rfl := Option.some.inj h
    exact .of_terms rfl rfl rfl rfl (by simp [Lease.occupying])
  · cases h
  · have hbare : l.Follows n { l with outstanding := 0, boundaryDue := false } :=
      .of_terms rfl rfl rfl rfl id
    exact hbare.trans (follows_drained h)
  · obtain rfl := Option.some.inj h
    exact .of_terms rfl rfl rfl rfl id

/-- R138: what the end of an access makes of its lease, before a drain that it ends. -/
def Lease.ended (lost : Bool) (l : Lease) : Lease :=
  { l with
    outstanding := l.outstanding - 1
    marks := { l.marks with writeLost := l.marks.writeLost || lost } }

theorem Lease.follows_ended (n : Nat) (lost : Bool) (l : Lease) : l.Follows n (l.ended lost) :=
  .of_terms rfl rfl rfl rfl id

/-- R74, R77: a lease with nothing left outstanding that drains has drained. -/
theorem Lease.afterEnd_eq (m : Lease) :
    m.afterEnd = if m.outstanding = 0 ∧ m.draining = true then m.drained else some m := by
  unfold Lease.afterEnd Lease.draining Lease.drained
  cases m.state <;> by_cases h : m.outstanding = 0 <;> simp [h]

theorem Lease.follows_afterEnd {n : Nat} {l m : Lease} (h : l.afterEnd = some m) : l.Follows n m := by
  rw [Lease.afterEnd_eq] at h
  split at h
  · exact follows_drained h
  · obtain rfl := Option.some.inj h
    exact .refl n l

/-! ### Entries that the engine changes -/

theorem entry_endDrain (i j : EntryIx) (l : Lease) (c : Byte) (s : State) :
    (endDrain i l c s).entry j = (s.setLease i l.drained).entry j := by
  unfold endDrain
  dsimp only
  split
  · exact (answerClose_keeps _ _ _ _).entry j
  · rfl

/-- R138: the end of an access changes the entry of its handle. -/
theorem entry_finishAccess (h : Handle) (lost : Bool) (s : State) (i : EntryIx) :
    (finishAccess h lost s).1.entry i =
      if i = h.index then
        { s.entry i with lease := (s.lease i).bind fun l => (l.ended lost).afterEnd }
      else s.entry i := by
  have hset : ∀ m : Option Lease, (s.setLease h.index m).entry i =
      if i = h.index then { s.entry i with lease := m } else s.entry i := by
    intro m
    split
    · next e => subst e; exact entry_setLease_self s _ m
    · next e => exact entry_setLease_of_ne s m e
  unfold finishAccess
  split
  · next hl =>
    split
    · next e =>
      subst e
      rw [hl]
      rw [State.lease] at hl
      rw [Option.bind_none, ← hl]
    · rfl
  · next l hl =>
    have hlease : i = h.index → (s.lease i).bind (fun l => (l.ended lost).afterEnd) = (l.ended lost).afterEnd := by
      rintro rfl; rw [hl]; rfl
    have hend : ∀ m, (l.ended lost).afterEnd = m → (s.setLease h.index m).entry i = if i = h.index then
        { s.entry i with lease := (s.lease i).bind fun l => (l.ended lost).afterEnd } else s.entry i := by
      rintro m rfl
      rw [hset]
      split
      · next e => rw [hlease e]
      · rfl
    dsimp only
    split
    · next hd =>
      rw [entry_endDrain]
      exact hend _ (by rw [Lease.afterEnd_eq]; exact if_pos hd)
    · next hd => exact hend _ (by rw [Lease.afterEnd_eq]; exact if_neg hd)

theorem entry_countAdmission (i j : EntryIx) (s : State) :
    (countAdmission i s).entry j = if j = i then
      { s.entry j with lease := (s.lease j).map fun l => { l with outstanding := l.outstanding + 1 } }
      else s.entry j := by
  unfold countAdmission
  split
  · next hl =>
    split
    · next e => subst e; rw [hl]; rw [State.lease] at hl; rw [Option.map_none, ← hl]
    · rfl
  · next l hl =>
    split
    · next e => subst e; rw [hl]; exact entry_setLease_self s _ _
    · next e => exact entry_setLease_of_ne s _ e

/-! ### The directory in a move -/

/-- Every lease of `t` goes on from the lease of its entry in `s`. -/
def DirectoryFollows (s t : State) : Prop :=
  ∀ i m, t.lease i = some m → ∃ l, s.lease i = some l ∧ l.Follows (s.settings l.claim.target).term m

theorem DirectoryFollows.of_entry {s t : State} (h : ∀ i, t.entry i = s.entry i) :
    DirectoryFollows s t := fun i m hm =>
  ⟨m, by rwa [State.lease, h i] at hm, .refl _ m⟩

theorem DirectoryFollows.of_keeps {may : List Part} {s t : State} (h : KeepsAllBut may s t)
    (hp : .directory ∉ may := by decide) : DirectoryFollows s t := .of_entry fun i => h.entry i hp

/-- A change that makes of every lease nothing, or one that goes on from it. -/
theorem DirectoryFollows.of_bind {s t : State} {f : EntryIx → Lease → Option Lease}
    (h : ∀ i, t.lease i = (s.lease i).bind (f i))
    (hf : ∀ i l m n, f i l = some m → l.Follows n m) : DirectoryFollows s t := by
  intro i m hm
  rw [h i] at hm
  obtain ⟨l, hl, hfl⟩ := Option.bind_eq_some_iff.mp hm
  exact ⟨l, hl, hf i l m _ hfl⟩

theorem follows_of_countAdmission {s t : State} {i : EntryIx}
    (h : ∀ j, t.entry j = (countAdmission i s).entry j) : DirectoryFollows s t := by
  refine .of_bind (f := fun j l => if j = i then some { l with outstanding := l.outstanding + 1 } else some l)
    (fun j => ?_) fun j l m n hm => ?_
  · rw [State.lease, h j, entry_countAdmission]
    split
    · cases s.lease j <;> rfl
    · cases h : s.lease j <;> exact h
  · split at hm
    · obtain rfl := Option.some.inj hm
      exact .of_terms rfl rfl rfl rfl id
    · obtain rfl := Option.some.inj hm
      exact .refl n l

theorem follows_of_finishAccess {s u t : State} {x : Handle} {lost : Bool}
    (hu : ∀ j, u.entry j = s.entry j) (h : ∀ j, t.entry j = (finishAccess x lost u).1.entry j) :
    DirectoryFollows s t := by
  refine .of_bind (f := fun j l => if j = x.index then (l.ended lost).afterEnd else some l)
    (fun j => ?_) fun j l m n hm => ?_
  · rw [State.lease, h j, entry_finishAccess, State.lease, hu j]
    split
    · rfl
    · cases h : s.lease j <;> exact h
  · split at hm
    · exact (l.follows_ended n lost).trans (Lease.follows_afterEnd hm)
    · obtain rfl := Option.some.inj hm
      exact .refl n l

/-- R160: a lease on the lost target is settled, the others stay. -/
theorem Entry.settleLost_eq (t : TargetIx) (e : Entry) : e.settleLost t = { e with
    lease := e.lease.bind fun l => if l.claim.target = t then l.settleLost else some l } := by
  unfold Entry.settleLost
  split
  · next l h =>
    rw [h, Option.bind_some]
    split
    · rfl
    · rw [← h]
  · next h => rw [h, Option.bind_none, ← h]

theorem lease_loseTarget (t : TargetIx) (f : LastFault) (s : State) (i : EntryIx) :
    (loseTarget t f s).lease i = (s.lease i).bind fun l =>
      if l.claim.target = t then
        (l.withLost (s.queue.any fun w => w.target == t && w.handle.index == i)).settleLost
      else some (l.withLost (s.queue.any fun w => w.target == t && w.handle.index == i)) := by
  rw [State.lease, entry_loseTarget, Entry.settleLost_eq, Entry.withLost_lease]
  cases h : s.lease i with
  | none => rw [State.lease] at h; rw [h]; rfl
  | some l => rw [State.lease] at h; rw [h]; rfl

theorem follows_loseTarget {s u : State} (t : TargetIx) (f : LastFault)
    (hu : ∀ j, u.entry j = s.entry j) : DirectoryFollows s (loseTarget t f u) := by
  refine .of_bind (fun j => by rw [lease_loseTarget, State.lease, hu j]; rfl) fun j l m n hm => ?_
  split at hm
  · exact (l.follows_withLost n _).trans (Lease.follows_settleLost hm)
  · obtain rfl := Option.some.inj hm
    exact l.follows_withLost n _

theorem follows_edited {g : Stage} {s t : State} (h : ∀ i, Edited g s i (s.lease i) (t.lease i)) :
    DirectoryFollows s t := by
  intro i m hm
  have hi := h i
  rw [hm] at hi
  cases hl : s.lease i with
  | none => rw [hl] at hi; cases hi
  | some l => rw [hl] at hi; exact ⟨l, rfl, hi.1.follows⟩

theorem follows_endDrain (i : EntryIx) {l : Lease} {s : State} (hl : s.lease i = some l) :
    DirectoryFollows s (endDrain i l 0x00 s) := by
  intro j m hm
  rw [State.lease, entry_endDrain] at hm
  by_cases h : j = i
  · subst h
    rw [entry_setLease_self] at hm
    exact ⟨l, hl, Lease.follows_drained hm⟩
  · rw [entry_setLease_of_ne _ _ h] at hm
    exact ⟨m, hm, .refl _ m⟩

theorem follows_admitStalled (s : State) : DirectoryFollows s (admitStalled s) := by
  unfold admitStalled
  split
  · exact .of_entry fun _ => rfl
  · next w _ =>
    split
    · have hsame : ∀ j, ({ s with stalled := none } : State).entry j = s.entry j := fun _ => rfl
      have hcount := follows_of_countAdmission (s := { s with stalled := none }) (t := admitWrite w { s with stalled := none })
        (i := w.handle.index) fun _ => rfl
      exact hcount
    · exact .of_entry fun _ => rfl

/-- R6, R67: what a move makes of the directory. -/
theorem Move.directory_cases {g : Stage} {s t : State} (h : Move g s t) :
    DirectoryFollows s t ∨
    (∃ p c i, s.openEntry c = some i ∧ s.charge p ≠ s.quota p ∧
      s.targetOfWindow c.window = some c.target ∧ c.window.InRange 256 ∧ t = grantLease i p c s) ∨
    t = Machine.scan s ∨
    ∃ i l c, s.lease i = some l ∧ l.state = .parked ∧ c.target = l.claim.target ∧
      c.window.InRange 256 ∧ (s.span c.target).any c.window.inside = true ∧
      s.conflictsOccupying (some i) c = false ∧ t = s.setLease i (some { l with claim := c }) := by
  cases h with
  | aside h => exact .inl (.of_keeps h)
  | clock h _ => exact .inl (.of_keeps h)
  | link p u _ => exact .inl (.of_keeps (keeps_setLink s p u))
  | quota p n => exact .inl (.of_keeps (keeps_quotas s _))
  | directory _ _ he => exact .inl (follows_edited he)
  | reshape i l c hl hs ht hw hspan hc => exact .inr (.inr (.inr ⟨i, l, c, hl, hs, ht, hw, hspan, hc, rfl⟩))
  | drain i l hl => exact .inl (follows_endDrain i hl)
  | holdClose p i n => exact .inl (.of_keeps (holdClose_keeps p i n s))
  | openGrant p c i ho hq ht hw => exact .inr (.inl ⟨p, c, i, ho, hq, ht, hw, rfl⟩)
  | enqueue p k => exact .inl (.of_entry fun _ => rfl)
  | scan => exact .inr (.inr (.inl rfl))
  | refuse f r => exact .inl (.of_keeps (refuseWaiters_keeps f r s))
  | leave p k x => exact .inl (.of_entry fun _ => rfl)
  | freeTicket p k => exact .inl (.of_entry fun _ => rfl)
  | waitTick => exact .inl (.of_entry fun _ => rfl)
  | clearPort p => exact .inl (.of_entry fun _ => rfl)
  | arbiter h => exact .inl (.of_keeps h)
  | rise p => exact .inl (.of_keeps ((keeps_setRequester s p _).trans (arbitrate_keeps _)))
  | wait p => exact .inl (.of_keeps (keeps_setRequester s p _))
  | fall p r => exact .inl (.of_keeps (loseGrant_keeps p r s))
  | unstall => exact .inl (.of_entry fun _ => rfl)
  | stall w => exact .inl (.of_entry fun _ => rfl)
  | post w => exact .inl (follows_of_countAdmission fun _ => rfl)
  | admitStalled => exact .inl (follows_admitStalled s)
  | takeRead x => exact .inl (follows_of_countAdmission fun _ => rfl)
  | start => exact .inl (.of_keeps (startNext_keeps s))
  | phase => exact .inl (.of_entry fun _ => rfl)
  | capture h w =>
    refine .inl (.of_entry fun i => ?_)
    unfold Machine.capture
    repeat' split
    all_goals rfl
  | finishWrite w rest lost e hq => exact .inl (follows_of_finishAccess (u := s.withoutWrite rest e) (fun _ => rfl) fun _ => rfl)
  | finishRead x late words e hx =>
    refine .inl (follows_of_finishAccess (x := x.handle) (lost := false) (u := s.withoutRead e) (fun _ => rfl) fun j => ?_)
    rw [(readEnded_keeps _).entry j]
    unfold returnRead
    repeat' split
    all_goals rfl
  | health t r => exact .inl (.of_keeps (keeps_setTarget s t r))
  | lose t f => exact .inl (follows_loseTarget t f fun _ => rfl)
  | probeReady t h w => exact .inl (.of_entry h.keeps.entry)
  | probeLost t f h => exact .inl (follows_loseTarget t f h.keeps.entry)
  | configure t r o =>
    exact .inl (.of_keeps (((keeps_setTarget s t r).mono (by simp)).trans
      (((refuseWaiters_keeps _ _ _).mono (by simp)).trans
        ((keeps_setProbe _ t o).mono (b := [.targets, .links, .waitList, .probes]) (by simp)))))

/-! ### The law of R5 -/

theorem Claim.conflicts_comm (a b : Claim) : a.conflicts b = b.conflicts a := by
  unfold Claim.conflicts Window.overlaps
  rw [Bool.eq_iff_iff]
  simp only [Bool.and_eq_true, Bool.or_eq_true, beq_iff_eq, decide_eq_true_eq]
  constructor
  · rintro ⟨⟨ht, h1, h2⟩, hc⟩; exact ⟨⟨ht.symm, h2, h1⟩, hc.symm⟩
  · rintro ⟨⟨ht, h1, h2⟩, hc⟩; exact ⟨⟨ht.symm, h2, h1⟩, hc.symm⟩

theorem conflictsOccupying_eq_false_iff {s : State} {i : Option EntryIx} {c : Claim} :
    s.conflictsOccupying i c = false ↔
      ∀ j l, some j ≠ i → s.lease j = some l → l.occupying = true → l.claim.conflicts c = false := by
  simp only [State.conflictsOccupying, List.any_eq_false, mem_allEntries, true_implies,
    Bool.and_eq_true, bne_iff_ne, Option.any_eq_true]
  constructor
  · intro h j l hj hl ho
    by_contra hc
    exact h j ⟨hj, l, hl, ho, by simpa using hc⟩
  · rintro h j ⟨hj, l, hl, ho, hc⟩
    simp [h j l hj hl ho] at hc

theorem NoConflicts.of_follows {s t : State} (h : NoConflicts s) (hf : DirectoryFollows s t) :
    NoConflicts t := by
  intro i j li lj hij hi hj hoi hoj
  obtain ⟨mi, hmi, fi⟩ := hf i li hi
  obtain ⟨mj, hmj, fj⟩ := hf j lj hj
  rw [fi.claim, fj.claim]
  exact h i j mi mj hij hmi hmj (fi.occupying hoi) (fj.occupying hoj)

/-- One entry gets a lease whose claim conflicts with no other occupying entry. -/
theorem NoConflicts.of_changed {s t : State} (h : NoConflicts s) {i : EntryIx} {l : Lease}
    (hi : t.lease i = some l) (hsame : ∀ j, j ≠ i → t.lease j = s.lease j)
    (hc : s.conflictsOccupying (some i) l.claim = false) : NoConflicts t := by
  have hnone : ∀ j m, j ≠ i → t.lease j = some m → m.occupying = true → m.claim.conflicts l.claim = false :=
    fun j m hj hm ho =>
      conflictsOccupying_eq_false_iff.mp hc j m (by simpa using hj) (by rwa [hsame j hj] at hm) ho
  intro a b la lb hab ha hb hoa hob
  by_cases hai : a = i
  · subst hai
    obtain rfl := Option.some.inj (hi.symm.trans ha)
    rw [Claim.conflicts_comm]
    exact hnone b lb (Ne.symm hab) hb hob
  · by_cases hbi : b = i
    · subst hbi
      obtain rfl := Option.some.inj (hi.symm.trans hb)
      exact hnone a la hai ha hoa
    · exact h a b la lb hab (by rwa [hsame a hai] at ha) (by rwa [hsame b hbi] at hb) hoa hob

/-- R29, R34: a grant to a claim that conflicts with no occupying entry. -/
theorem NoConflicts.grantLease {s : State} (h : NoConflicts s) {i : EntryIx} {p : Port} {c : Claim}
    (hc : s.conflictsOccupying none c = false) : NoConflicts (grantLease i p c s) := by
  have hlease := grantLease_entry i p c s
  refine h.of_changed (i := i) (l := grantedLease s p c) ?_ (fun j hj => ?_) ?_
  · rw [State.lease, hlease.1]
  · rw [State.lease, hlease.2 j hj]; rfl
  · exact conflictsOccupying_eq_false_iff.mpr fun j l _ =>
      conflictsOccupying_eq_false_iff.mp hc j l (by simp)

/-- R34: what makes a request grantable in a scan. -/
theorem scanGrantable_iff {s : State} {kept : List Waiter} {w : Waiter} : s.scanGrantable kept w = true ↔
    (s.target w.claim.target).state.inService = true ∧ s.conflictsOccupying none w.claim = false ∧
      ∀ o, o ∈ kept → o.claim.conflicts w.claim = false := by
  simp [State.scanGrantable, and_assoc]

/-- R34: an invariant of the walk from head to tail, which the grants of the walk and its end keep. -/
theorem scanFrom_induct {P : List Waiter → List Waiter → State → Prop} {Q : State → Prop}
    (hend : ∀ kept s, P [] kept s → Q { s with waitList := kept.reverse })
    (hkeep : ∀ w rest kept s, (s.scanGrantable kept w = false ∨ s.freeEntry = none) →
      P (w :: rest) kept s → P rest (w :: kept) s)
    (hgrant : ∀ w rest kept s i, s.scanGrantable kept w = true → s.freeEntry = some i →
      P (w :: rest) kept s → P rest kept (grantWaiter i w s)) :
    ∀ rest kept s, P rest kept s → Q (scanFrom rest kept s) := by
  intro rest
  induction rest with
  | nil => exact hend
  | cons w rest ih =>
    intro kept s hP
    unfold scanFrom
    split
    · next i hi =>
      split at hi
      · next hg => exact ih _ _ (hgrant w rest kept s i hg hi hP)
      · cases hi
    · next hnone =>
      refine ih _ _ (hkeep w rest kept s ?_ hP)
      split at hnone
      · exact .inr hnone
      · next hg => exact .inl (by simpa using hg)

theorem NoConflicts.scan {s : State} (h : NoConflicts s) : NoConflicts (Machine.scan s) := by
  refine scanFrom_induct (P := fun _ _ s => NoConflicts s) (fun _ _ h => h) (fun _ _ _ _ _ h => h) ?_ _ _ _ h
  intro w rest kept s i hg _ hs
  exact hs.grantLease (scanGrantable_iff.mp hg).2.1

theorem NoConflicts.move {g : Stage} {s t : State} (hm : Move g s t) (h : NoConflicts s) :
    NoConflicts t := by
  rcases hm.directory_cases with hf | ⟨p, c, i, ho, -, -, -, rfl⟩ | rfl | ⟨i, l, c, hl, -, -, -, -, hc, rfl⟩
  · exact h.of_follows hf
  · unfold State.openEntry at ho
    split at ho
    · next hgrantable =>
      simp only [State.conflictsAny, Bool.not_or, Bool.and_eq_true, Bool.not_eq_true'] at hgrantable
      exact h.grantLease hgrantable.2.1
    · cases ho
  · exact h.scan
  · exact h.of_changed (lease_setLease_self s i _) (fun j hj => lease_setLease_of_ne s _ hj) hc

theorem lease_inReset (i : EntryIx) : State.inReset.lease i = none := by revert i; decide

theorem noConflicts_inReset : NoConflicts State.inReset :=
  fun i _ _ _ _ hi => nomatch (lease_inReset i).symm.trans hi

/-- Settles O8: every move of a step keeps the law. A grant, of an OPEN or in a scan, and a RESHAPE test their
claim against the occupying entries, and every other move leaves claims alone and lets none begin to
occupy. -/
theorem noConflictsIsKept : Obligations.NoConflictsIsKept := by
  exact keptByStep_of_moves (fun _ _ => noConflicts_inReset) (fun _ _ h => h) fun _ _ _ hm => NoConflicts.move hm

end Sys2Proof.Machine
end

section
/-! Tickets, the wait list and the charge along a move; then the laws of R23 and R17. -/

namespace Sys2Proof.Machine

/-! ### Operations that leave the tickets alone -/

/-- Every ticket is the same. -/
def SameTickets (s t : State) : Prop := ∀ p k, t.ticket p k = s.ticket p k

theorem SameTickets.trans {s t u : State} (h : SameTickets s t) (h' : SameTickets t u) :
    SameTickets s u := fun p k => (h' p k).trans (h p k)

theorem SameTickets.refl (s : State) : SameTickets s s := fun _ _ => rfl

theorem SameTickets.of_keeps {may : List Part} {s t : State} (h : KeepsAllBut may s t)
    (hp : .links ∉ may := by decide) : SameTickets s t := fun p k => h.ticket p k hp

theorem sameTickets_setLink {s : State} {p : Port} {u : LinkUnit} (h : u.tickets = (s.link p).tickets) :
    SameTickets s (s.setLink p u) := by
  intro q k
  by_cases hq : q = p
  · subst hq; simp [State.ticket, h]
  · simp [State.ticket, hq]

theorem sameTickets_respond (p : Port) (st : Status) (r : List Byte) (s : State) :
    SameTickets s (respond p st r s) := by
  unfold respond
  split
  · exact sameTickets_setLink rfl
  · exact .refl s

theorem sameTickets_answerClose (p : Port) (i : EntryIx) (c : Byte) (s : State) :
    SameTickets s (answerClose p i c s) := by
  unfold answerClose
  split
  · split
    · split
      · exact sameTickets_respond _ _ _ s
      · exact .refl s
    · exact .refl s
  · exact .refl s

theorem sameTickets_enterFault (p : Port) (f : AccessFault) (s : State) :
    SameTickets s (enterFault p f s) := sameTickets_setLink rfl

theorem sameTickets_holdClose (p : Port) (i : EntryIx) (n : Nat) (s : State) :
    SameTickets s (holdClose p i n s) := by
  unfold holdClose
  split
  · exact sameTickets_setLink rfl
  · exact .refl s

theorem sameTickets_endDrain (i : EntryIx) (l : Lease) (c : Byte) (s : State) :
    SameTickets s (endDrain i l c s) := by
  unfold endDrain
  dsimp only
  split
  · exact (SameTickets.of_keeps (keeps_setLease s i _)).trans (sameTickets_answerClose _ _ _ _)
  · exact .of_keeps (keeps_setLease s i _)

theorem sameTickets_finishAccess (h : Handle) (lost : Bool) (s : State) :
    SameTickets s (finishAccess h lost s).1 := by
  unfold finishAccess
  split
  · exact .refl s
  · dsimp only
    split
    · exact sameTickets_endDrain _ _ _ _
    · exact .of_keeps (keeps_setLease s _ _)

theorem sameTickets_returnRead (x : PendingRead) (late : Bool) (words : List Word) (s : State) :
    SameTickets s (returnRead x late words s) := by
  unfold returnRead
  split
  · split
    · exact sameTickets_enterFault _ _ s
    · exact .refl s
  · exact .refl s

theorem sameTickets_refuseStalledFor (t : TargetIx) (s : State) :
    SameTickets s (refuseStalledFor t s) := by
  unfold refuseStalledFor
  split
  · exact .refl s
  · split
    · unfold refuseStalled
      split
      · exact .refl s
      · exact sameTickets_enterFault _ _ _
    · exact .refl s

theorem sameTickets_foldl {α : Type} {f : State → α → State} (hf : ∀ s a, SameTickets s (f s a))
    (l : List α) (s : State) : SameTickets s (l.foldl f s) := by
  induction l generalizing s with
  | nil => exact .refl s
  | cons a l ih => exact (hf s a).trans (ih _)

theorem sameTickets_discardWrite (s : State) (w : PostedWrite) : SameTickets s (discardWrite s w) := by
  intro p k
  simp [State.ticket, link_discardWrite]

theorem sameTickets_dropRead (t : TargetIx) (s : State) : SameTickets s (dropRead t s) := by
  unfold dropRead
  split
  · exact .refl s
  · split
    · dsimp only
      refine SameTickets.trans ?_ (.of_keeps (readEnded_keeps _))
      split
      · exact sameTickets_enterFault _ _ _
      · exact .refl s
    · exact .refl s

theorem sameTickets_answerLostCloses (t : TargetIx) (s : State) :
    SameTickets s (answerLostCloses t s) := by
  refine sameTickets_foldl (fun s i => ?_) allEntries s
  split
  · split
    · exact sameTickets_answerClose _ _ _ s
    · exact .refl s
  · exact .refl s

theorem sameTickets_leasesLost (t : TargetIx) (f : LastFault) (s : State) :
    SameTickets s (leasesLost t f s) := by
  have hwrites : SameTickets s (discardWrites t (s.offline t f)) :=
    sameTickets_foldl (fun s w => sameTickets_discardWrite s w) _ _
  have haccesses : SameTickets s (accessesLost t f s) :=
    (hwrites.trans (sameTickets_dropRead t _)).trans (sameTickets_refuseStalledFor t _)
  exact (haccesses.trans (sameTickets_answerLostCloses t _)).trans (.of_keeps (keeps_entries _ _))

theorem capture_keeps (h : Holding) (w : Word) (s : State) :
    KeepsAllBut [.read, .probes] s (capture h w s) := by
  unfold capture
  split
  · exact .refl _ s
  · split
    · exact (keeps_read s _).mono (by simp)
    · exact .refl _ s
  · split
    · exact (keeps_setProbe s _ _).mono (by simp)
    · exact .refl _ s

theorem withoutRead_keeps (s : State) (e : Option AccessEnd) :
    KeepsAllBut [.read, .current, .lastEnd] s (s.withoutRead e) :=
  fun x hx => by cases x <;> simp_all [Part.same, State.withoutRead]

theorem withoutWrite_keeps (s : State) (rest : List PostedWrite) (e : Option AccessEnd) :
    KeepsAllBut [.queue, .current, .lastEnd] s (s.withoutWrite rest e) :=
  fun x hx => by cases x <;> simp_all [Part.same, State.withoutWrite]

/-- R138: the state after the pending read has left the engine. -/
def State.readFinished (s : State) (x : PendingRead) (late : Bool) (words : List Word) (e : Option AccessEnd) :
    State := readEnded (returnRead x late words (finishAccess x.handle false (s.withoutRead e)).1)

theorem finishRead_keeps (x : PendingRead) (late : Bool) (words : List Word) (e : Option AccessEnd)
    (s : State) : KeepsAllBut [.read, .current, .lastEnd, .directory, .links, .answer, .arbiter] s
      (s.readFinished x late words e) :=
  ((withoutRead_keeps s e).mono (by simp)).trans (((finishAccess_keeps _ _ _).mono (by simp)).trans
    (((returnRead_keeps _ _ _ _).mono (by simp)).trans ((readEnded_keeps _).mono (by simp))))

theorem follows_finishRead (x : PendingRead) (late : Bool) (words : List Word) (e : Option AccessEnd)
    (s : State) : DirectoryFollows s (s.readFinished x late words e) := by
  refine follows_of_finishAccess (x := x.handle) (lost := false) (u := s.withoutRead e) (fun _ => rfl) fun j => ?_
  rw [State.readFinished, (readEnded_keeps _).entry j, (returnRead_keeps _ _ _ _).entry j]

/-! ### Counting entries and tickets -/

theorem countP_succ_of_changed {α : Type} [DecidableEq α] {l : List α} {f g : α → Bool} {i : α}
    (hn : l.Nodup) (hi : i ∈ l) (hsame : ∀ j, j ≠ i → f j = g j) (hf : f i = true) (hg : g i = false) :
    l.countP f = l.countP g + 1 := by
  induction l with
  | nil => cases hi
  | cons a l ih =>
    obtain ⟨hnot, hn⟩ := List.nodup_cons.mp hn
    by_cases ha : a = i
    · subst ha
      have hrest : l.countP f = l.countP g :=
        List.countP_congr fun j hj => by rw [hsame j fun e => hnot (e ▸ hj)]
      simp [hf, hg, hrest]
    · have hmem : i ∈ l := (List.mem_cons.mp hi).resolve_left (Ne.symm ha)
      simp only [List.countP_cons, ih hn hmem, hsame a ha]
      omega

theorem allEntries_nodup : allEntries.Nodup := by decide

/-- Each entry's lease counts, or does not. -/
theorem countLeases_congr {s t : State} {f : Lease → Bool} (h : ∀ i, (t.lease i).any f = (s.lease i).any f) :
    t.countLeases f = s.countLeases f := List.countP_congr fun i _ => by rw [h i]

theorem countLeases_le {s t : State} {f : Lease → Bool}
    (h : ∀ i, (t.lease i).any f = true → (s.lease i).any f = true) : t.countLeases f ≤ s.countLeases f :=
  List.countP_mono_left fun i _ => h i

/-- A FREE entry is taken by a lease that counts. -/
theorem countLeases_taken {s t : State} {f : Lease → Bool} {i : EntryIx} {l : Lease}
    (hs : s.lease i = none) (ht : t.lease i = some l) (hsame : ∀ j, j ≠ i → t.lease j = s.lease j)
    (hf : f l = true) : t.countLeases f = s.countLeases f + 1 :=
  countP_succ_of_changed allEntries_nodup (mem_allEntries i) (fun j hj => by rw [hsame j hj])
    (by simp [ht, hf]) (by simp [hs])

/-- A FREE entry is taken by a lease that does not count. -/
theorem countLeases_taken_other {s t : State} {f : Lease → Bool} {i : EntryIx} {l : Lease}
    (hs : s.lease i = none) (ht : t.lease i = some l) (hsame : ∀ j, j ≠ i → t.lease j = s.lease j)
    (hf : f l = false) : t.countLeases f = s.countLeases f := by
  refine countLeases_congr fun j => ?_
  by_cases h : j = i
  · subst h; simp [hs, ht, hf]
  · rw [hsame j h]

theorem mem_slots (k : Slot) : k ∈ ([0, 1] : List Slot) := by revert k; decide

/-- R17: a ticket begins to wait. -/
theorem waitingTickets_succ {s t : State} {p : Port} {k : Slot} (ht : t.ticket p k = .waiting)
    (hs : s.ticket p k ≠ .waiting) (hsame : ∀ m, m ≠ k → t.ticket p m = s.ticket p m) :
    t.waitingTickets p = s.waitingTickets p + 1 := by
  refine countP_succ_of_changed (i := k) (by decide) (mem_slots k) (fun m hm => ?_) ?_ ?_
  · rw [hsame m hm]
  · simp [ht]
  · simpa using hs

theorem waitingTickets_congr {s t : State} {p : Port} (h : ∀ k, t.ticket p k = s.ticket p k) :
    t.waitingTickets p = s.waitingTickets p := List.countP_congr fun k _ => by rw [h k]

theorem waitingTickets_le {s t : State} {p : Port}
    (h : ∀ k, t.ticket p k = .waiting → s.ticket p k = .waiting) :
    t.waitingTickets p ≤ s.waitingTickets p :=
  List.countP_mono_left fun k _ hk => by simp only [beq_iff_eq] at hk ⊢; exact h k hk

theorem charge_le_of_follows {s t : State} {p : Port} (hf : DirectoryFollows s t)
    (ht : ∀ k, t.ticket p k = .waiting → s.ticket p k = .waiting) : t.charge p ≤ s.charge p := by
  refine Nat.add_le_add (countLeases_le fun i hi => ?_) (waitingTickets_le ht)
  obtain ⟨m, hm, hp⟩ := (Option.any_eq_true _ _).mp hi
  obtain ⟨l, hl, hfollow⟩ := hf i m hm
  simpa [hl, hfollow.holder] using hp

/-! ### The laws of R23 and R17 -/

/-- R23: there is exactly one of these requests for each WAITING ticket and none for any other. -/
def TicketLawFor (ws : List Waiter) (s : State) : Prop :=
  ∀ p k, (ws.countP fun w => w.port == p && w.slot == k) = if s.ticket p k = .waiting then 1 else 0

theorem TicketLawFor.congr {ws vs : List Waiter} {s t : State} (h : TicketLawFor ws s)
    (hw : ∀ p k, (vs.countP fun w => w.port == p && w.slot == k) =
      ws.countP fun w => w.port == p && w.slot == k) (ht : SameTickets s t) : TicketLawFor vs t :=
  fun p k => by rw [hw, h p k, ht p k]

theorem ChargeLaw.of_le {s t : State} (h : ChargeLaw s) (hq : t.quotas = s.quotas)
    (hc : ∀ p, t.charge p ≤ s.charge p) : ChargeLaw t := by
  intro p
  obtain ⟨hcharge, hrange⟩ := h p
  have hquota : t.quota p = s.quota p := by simp only [State.quota, hq]
  rw [hquota]
  exact ⟨(hc p).trans hcharge, hrange⟩

/-- A move that leaves the wait list, the tickets and the quotas alone and grants nothing. -/
theorem ticketAndCharge_of_same {s t : State} (h : TicketLaw s ∧ ChargeLaw s)
    (hw : t.waitList = s.waitList) (ht : SameTickets s t) (hq : t.quotas = s.quotas)
    (hf : DirectoryFollows s t) : TicketLaw t ∧ ChargeLaw t := by
  obtain ⟨htickets, hcharge⟩ := h
  refine ⟨TicketLawFor.congr (ws := s.waitList) htickets (by rw [hw]; exact fun _ _ => rfl) ht, hcharge.of_le hq fun p => ?_⟩
  exact charge_le_of_follows hf fun k hk => by rwa [ht p k] at hk

/-- A grant raises its port's charge by one. -/
theorem charge_grantLease {s : State} {i : EntryIx} (hi : s.lease i = none) (p : Port) (c : Claim) (q : Port) :
    (grantLease i p c s).charge q = s.charge q + if q = p then 1 else 0 := by
  obtain ⟨hself, hother⟩ := grantLease_entry i p c s
  have ht : (grantLease i p c s).lease i = some (grantedLease s p c) := by rw [State.lease, hself]
  have hsame : ∀ j, j ≠ i → (grantLease i p c s).lease j = s.lease j := fun j hj => by
    rw [State.lease, hother j hj]; rfl
  have htickets : (grantLease i p c s).waitingTickets q = s.waitingTickets q := rfl
  unfold State.charge
  rw [htickets]
  by_cases h : q = p
  · subst h
    rw [countLeases_taken hi ht hsame (by simp), if_pos rfl]
    omega
  · rw [countLeases_taken_other hi ht hsame (by simpa using Ne.symm h), if_neg h, Nat.add_zero]

theorem ChargeLaw.of_quota {s t : State} (h : ChargeLaw s) (hq : t.quotas = s.quotas) {p : Port}
    (hp : s.charge p ≠ s.quota p) (hc : ∀ q, t.charge q = s.charge q + if q = p then 1 else 0) :
    ChargeLaw t := by
  intro q
  obtain ⟨hcharge, hrange⟩ := h q
  have hquota : t.quota q = s.quota q := by simp only [State.quota, hq]
  rw [hquota, hc q]
  refine ⟨?_, hrange⟩
  split
  · next e => subst e; omega
  · exact hcharge

/-- R35: a scan's grant turns a WAITING ticket's charge into a lease's. -/
theorem charge_grantWaiter {s : State} {i : EntryIx} (hi : s.lease i = none) {w : Waiter}
    (hw : s.ticket w.port w.slot = .waiting) (q : Port) : (grantWaiter i w s).charge q = s.charge q := by
  have hgrant := charge_grantLease hi w.port w.claim q
  have hleases : ∀ f, (grantWaiter i w s).countLeases f = (grantLease i w.port w.claim s).countLeases f :=
    fun f => rfl
  unfold State.charge at hgrant ⊢
  rw [hleases]
  have hticket : ∀ p m, ¬(p = w.port ∧ m = w.slot) → (grantWaiter i w s).ticket p m = s.ticket p m :=
    fun p m h => ticket_setTicket_of_ne _ _ h
  have hgranted : (grantWaiter i w s).ticket w.port w.slot = .granted (s.nextHandle i) :=
    ticket_setTicket_self _ _ _ _
  by_cases h : q = w.port
  · subst h
    have hsucc : s.waitingTickets w.port = (grantWaiter i w s).waitingTickets w.port + 1 :=
      waitingTickets_succ hw (by simp [hgranted]) fun m hm => (hticket w.port m fun e => hm e.2).symm
    have hsame : (grantLease i w.port w.claim s).waitingTickets w.port = s.waitingTickets w.port := rfl
    rw [if_pos rfl] at hgrant
    omega
  · have hsame : (grantWaiter i w s).waitingTickets q = (grantLease i w.port w.claim s).waitingTickets q :=
      waitingTickets_congr fun k => hticket q k fun e => h e.1
    rw [if_neg h] at hgrant
    omega

theorem ticketAndCharge_scan {s : State} (h : TicketLaw s ∧ ChargeLaw s) :
    TicketLaw (scan s) ∧ ChargeLaw (scan s) := by
  refine scanFrom_induct (P := fun rest kept s => TicketLawFor (rest ++ kept) s ∧ ChargeLaw s)
    (Q := fun s => TicketLaw s ∧ ChargeLaw s) ?_ ?_ ?_ _ _ _
    ⟨by rw [List.append_nil]; exact h.1, h.2⟩
  · rintro kept s ⟨ht, hc⟩
    exact ⟨TicketLawFor.congr ht (fun p k => List.countP_reverse) (.refl s), hc⟩
  · rintro w rest kept s - ⟨ht, hc⟩
    exact ⟨TicketLawFor.congr ht (fun p k => List.perm_middle.countP_eq _) (.refl s), hc⟩
  · rintro w rest kept s i - hi ⟨ht, hc⟩
    have hw := ht w.port w.slot
    have hwait : s.ticket w.port w.slot = .waiting := by
      by_contra hno
      rw [if_neg hno] at hw
      simp at hw
    refine ⟨fun p k => ?_, hc.of_le rfl fun q => (charge_grantWaiter (freeEntry_free hi) hwait q).le⟩
    have hpk := ht p k
    rw [List.cons_append, List.countP_cons] at hpk
    by_cases h : p = w.port ∧ k = w.slot
    · obtain ⟨rfl, rfl⟩ := h
      have hgranted : (grantWaiter i w s).ticket w.port w.slot = .granted (s.nextHandle i) :=
        ticket_setTicket_self _ _ _ _
      simp only [beq_self_eq_true, Bool.and_self, if_true, hwait] at hpk
      simp only [hgranted, reduceCtorEq, if_false]
      omega
    · have hsame : (grantWaiter i w s).ticket p k = s.ticket p k := ticket_setTicket_of_ne _ _ h
      have hno : (w.port == p && w.slot == k) = false := by
        rw [Bool.eq_false_iff, ne_eq, Bool.and_eq_true, beq_iff_eq, beq_iff_eq]
        exact fun e => h ⟨e.1.symm, e.2.symm⟩
      rw [hsame, ← hpk, hno]
      simp

/-- R23: the requests of a ticket, of those that are picked and of the others. -/
theorem countP_filter_add (f : Waiter → Bool) (ws : List Waiter) (p : Port) (k : Slot) :
    ((ws.filter fun w => !f w).countP fun w => w.port == p && w.slot == k) +
      (ws.countP fun w => f w && w.port == p && w.slot == k) =
        ws.countP fun w => w.port == p && w.slot == k := by
  induction ws with
  | nil => rfl
  | cons w ws ih =>
    cases hf : f w
    · simp only [List.filter_cons, List.countP_cons, hf, Bool.not_false, if_true, Bool.false_and,
        Bool.false_eq_true, if_false]
      omega
    · simp only [List.filter_cons, List.countP_cons, hf, Bool.not_true, Bool.true_and,
        Bool.false_eq_true, if_false]
      omega

theorem ticketAndCharge_refuse {s : State} (f : Waiter → Bool) (r : RefuseReason)
    (h : TicketLaw s ∧ ChargeLaw s) :
    TicketLaw (refuseWaiters f r s) ∧ ChargeLaw (refuseWaiters f r s) := by
  obtain ⟨ht, hc⟩ := h
  refine ⟨fun p k => ?_, hc.of_le (refuseWaiters_keeps f r s).quotas fun p => ?_⟩
  · have hpk := ht p k
    have hsum := countP_filter_add f s.waitList p k
    unfold State.waitersOf at hpk ⊢
    rw [waitList_refuseWaiters, ticket_refuseWaiters]
    split
    · next hany =>
      have hpos := List.countP_pos_iff.mpr (List.any_eq_true.mp hany)
      rw [if_neg (by simp)]
      split at hpk <;> omega
    · next hnone =>
      have hzero : (s.waitList.countP fun w => f w && w.port == p && w.slot == k) = 0 := by
        by_contra hne
        exact hnone (List.any_eq_true.mpr (List.countP_pos_iff.mp (Nat.pos_of_ne_zero hne)))
      omega
  · refine charge_le_of_follows (.of_keeps (refuseWaiters_keeps f r s)) fun k hk => ?_
    rw [ticket_refuseWaiters] at hk
    split at hk
    · cases hk
    · exact hk

/-- One ticket's request leaves the list, and the ticket no longer waits. -/
theorem ticketAndCharge_leave {s : State} (p : Port) (k : Slot) {x : Ticket} (hx : x ≠ .waiting)
    (h : TicketLaw s ∧ ChargeLaw s) : TicketLaw ((dropWaiter p k s).setTicket p k x) ∧
      ChargeLaw ((dropWaiter p k s).setTicket p k x) := by
  obtain ⟨ht, hc⟩ := h
  have hself : ((dropWaiter p k s).setTicket p k x).ticket p k = x := ticket_setTicket_self _ _ _ _
  have hother : ∀ q m, ¬(q = p ∧ m = k) →
      ((dropWaiter p k s).setTicket p k x).ticket q m = s.ticket q m :=
    fun q m hne => ticket_setTicket_of_ne _ _ hne
  refine ⟨fun q m => ?_, hc.of_le rfl fun q => ?_⟩
  · have hqm := ht q m
    have hlist : ((dropWaiter p k s).setTicket p k x).waitersOf q m =
        (s.waitList.filter fun w => !(w.port == p && w.slot == k)).countP
          fun w => w.port == q && w.slot == m := rfl
    rw [hlist, List.countP_filter]
    by_cases hsame : q = p ∧ m = k
    · obtain ⟨rfl, rfl⟩ := hsame
      rw [hself, if_neg hx, List.countP_eq_zero]
      simp
    · rw [hother q m hsame, ← hqm]
      refine List.countP_congr fun w _ => ?_
      simp only [Bool.and_eq_true, beq_iff_eq, Bool.not_eq_true', Bool.and_eq_false_iff,
        beq_eq_false_iff_ne]
      constructor
      · exact fun hw => hw.1
      · rintro ⟨rfl, rfl⟩
        exact ⟨⟨rfl, rfl⟩, by by_contra hc; push Not at hc; exact hsame hc⟩
  · refine charge_le_of_follows (.of_entry fun _ => rfl) fun m hm => ?_
    by_cases hsame : q = p ∧ m = k
    · obtain ⟨rfl, rfl⟩ := hsame
      rw [hself] at hm
      exact absurd hm hx
    · rwa [hother q m hsame] at hm

theorem ticketAndCharge_freeTicket {s : State} {p : Port} {k : Slot} (hk : s.ticket p k ≠ .waiting)
    (h : TicketLaw s ∧ ChargeLaw s) :
    TicketLaw (s.setTicket p k .unused) ∧ ChargeLaw (s.setTicket p k .unused) := by
  obtain ⟨ht, hc⟩ := h
  have hwait : ∀ q m, (s.setTicket p k .unused).ticket q m = .waiting ↔ s.ticket q m = .waiting := by
    intro q m
    by_cases hsame : q = p ∧ m = k
    · obtain ⟨rfl, rfl⟩ := hsame
      simp [hk]
    · rw [ticket_setTicket_of_ne s _ hsame]
  refine ⟨fun q m => ?_, hc.of_le rfl fun q =>
    charge_le_of_follows (.of_entry fun _ => rfl) fun m hm => (hwait q m).mp hm⟩
  simp only [hwait]
  exact ht q m

theorem ticketAndCharge_waitTick {s : State} (h : TicketLaw s ∧ ChargeLaw s) :
    TicketLaw { s with waitList := s.waitList.map Waiter.ticked } ∧
      ChargeLaw { s with waitList := s.waitList.map Waiter.ticked } := by
  obtain ⟨ht, hc⟩ := h
  have hticked : ∀ w : Waiter, w.ticked.port = w.port ∧ w.ticked.slot = w.slot := by
    intro w
    unfold Waiter.ticked
    split
    · exact ⟨rfl, rfl⟩
    · split <;> exact ⟨rfl, rfl⟩
  refine ⟨TicketLawFor.congr ht (fun p k => ?_) (.refl s), hc⟩
  rw [List.countP_map]
  exact List.countP_congr fun w _ => by simp [hticked w]

theorem ticketAndCharge_clearPort {s : State} (p : Port) (h : TicketLaw s ∧ ChargeLaw s) :
    TicketLaw ((removeWaiters p s).setLink p (s.link p).portReset) ∧
      ChargeLaw ((removeWaiters p s).setLink p (s.link p).portReset) := by
  obtain ⟨ht, hc⟩ := h
  have hself : ∀ k, ((removeWaiters p s).setLink p (s.link p).portReset).ticket p k = .unused := fun k => by
    simp [State.ticket, LinkUnit.portReset]
  have hother : ∀ q k, q ≠ p →
      ((removeWaiters p s).setLink p (s.link p).portReset).ticket q k = s.ticket q k := fun q k hq => by
    rw [State.ticket, link_setLink_of_ne _ _ hq]; rfl
  refine ⟨fun q k => ?_, hc.of_le rfl fun q => ?_⟩
  · have hqk := ht q k
    have hlist : ((removeWaiters p s).setLink p (s.link p).portReset).waitersOf q k =
        (s.waitList.filter fun w => !(w.port == p)).countP fun w => w.port == q && w.slot == k := rfl
    rw [hlist, List.countP_filter]
    by_cases hq : q = p
    · subst hq
      rw [hself, if_neg (by simp), List.countP_eq_zero]
      intro w _ hw
      simp only [Bool.and_eq_true, beq_iff_eq, Bool.not_eq_true', beq_eq_false_iff_ne] at hw
      exact hw.2 hw.1.1
    · rw [hother q k hq, ← hqk]
      refine List.countP_congr fun w _ => ?_
      simp only [Bool.and_eq_true, beq_iff_eq, Bool.not_eq_true', beq_eq_false_iff_ne]
      exact ⟨fun hw => hw.1, fun hw => ⟨hw, fun e => hq (hw.1.symm.trans e)⟩⟩
  · refine charge_le_of_follows (.of_entry fun _ => rfl) fun k hk => ?_
    by_cases hq : q = p
    · subst hq; rw [hself] at hk; cases hk
    · rwa [hother q k hq] at hk

theorem ticketAndCharge_enqueue {s t : State} {p : Port} {k : Slot} {w : Waiter}
    (hw : w.port = p ∧ w.slot = k) (hslot : s.ticket p k = .unused) (hq : s.charge p ≠ s.quota p)
    (hlist : t.waitList = s.waitList ++ [w]) (hentries : t.entries = s.entries)
    (hquotas : t.quotas = s.quotas) (hself : t.ticket p k = .waiting)
    (hother : ∀ q m, ¬(q = p ∧ m = k) → t.ticket q m = s.ticket q m)
    (h : TicketLaw s ∧ ChargeLaw s) : TicketLaw t ∧ ChargeLaw t := by
  obtain ⟨ht, hc⟩ := h
  obtain ⟨rfl, rfl⟩ := hw
  have hleases : ∀ f, t.countLeases f = s.countLeases f := fun f => countLeases_congr fun i => by
    simp only [State.lease, State.entry, hentries]
  refine ⟨fun q m => ?_, hc.of_quota hquotas hq fun q => ?_⟩
  · have hqm := ht q m
    unfold State.waitersOf at hqm ⊢
    rw [hlist, List.countP_append, hqm, List.countP_singleton]
    by_cases hsame : q = w.port ∧ m = w.slot
    · obtain ⟨rfl, rfl⟩ := hsame
      simp [hself, hslot]
    · have hno : (w.port == q && w.slot == m) = false := by
        rw [Bool.eq_false_iff, ne_eq, Bool.and_eq_true, beq_iff_eq, beq_iff_eq]
        exact fun e => hsame ⟨e.1.symm, e.2.symm⟩
      simp [hother q m hsame, hno]
  · unfold State.charge
    rw [hleases]
    by_cases hp : q = w.port
    · subst hp
      rw [waitingTickets_succ hself (by simp [hslot]) fun m hm => hother w.port m fun e => hm e.2, if_pos rfl]
      omega
    · rw [waitingTickets_congr fun m => hother q m fun e => hp e.1, if_neg hp, Nat.add_zero]

theorem ticketAndCharge_loseTarget {s u : State} (t : TargetIx) (f : LastFault)
    (hw : u.waitList = s.waitList) (ht : SameTickets s u) (hq : u.quotas = s.quotas)
    (he : ∀ i, u.entry i = s.entry i) (h : TicketLaw s ∧ ChargeLaw s) :
    TicketLaw (loseTarget t f u) ∧ ChargeLaw (loseTarget t f u) := by
  have hkeeps : KeepsAllBut [.directory, .links, .arbiter, .stalled, .answer, .queue, .read, .targets] u
      (leasesLost t f u) := (accessesLost_keeps t f u).trans ((leasesLost_keeps t f u).mono (by simp))
  rw [loseTarget_eq]
  refine ticketAndCharge_refuse _ _ (ticketAndCharge_of_same h (hkeeps.waitList.trans hw)
    (ht.trans (sameTickets_leasesLost t f u)) (hkeeps.quotas.trans hq) ?_)
  have hfollows := follows_loseTarget t f he
  exact fun i m hm => hfollows i m (((loseTarget_from_leases t f u).lease i).trans hm)

theorem ticketAndCharge_move {g : Stage} {s t : State} (hm : Move g s t) (h : TicketLaw s ∧ ChargeLaw s) :
    TicketLaw t ∧ ChargeLaw t := by
  have hkeeps : ∀ {may : List Part} {v : State}, KeepsAllBut may s v → .links ∉ may → .waitList ∉ may →
      .quotas ∉ may → .directory ∉ may → TicketLaw v ∧ ChargeLaw v := fun hk hl hw hq hd =>
    ticketAndCharge_of_same h (hk.waitList hw) (.of_keeps hk hl) (hk.quotas hq) (.of_keeps hk hd)
  cases hm with
  | aside hk => exact hkeeps hk (by decide) (by decide) (by decide) (by decide)
  | clock hk _ => exact hkeeps hk (by decide) (by decide) (by decide) (by decide)
  | link p u hu => exact ticketAndCharge_of_same h rfl (sameTickets_setLink hu.1) rfl (.of_entry fun _ => rfl)
  | quota p n hn hlow hhigh =>
    refine ⟨h.1, fun q => ?_⟩
    obtain ⟨hc, hrange⟩ := h.2 q
    by_cases hq : q = p
    · subst hq
      have hset : State.quota { s with quotas := s.quotas.set q n } q = n := by simp [State.quota]
      rw [hset]
      exact ⟨hn, hlow, hhigh⟩
    · have hsame : State.quota { s with quotas := s.quotas.set p n } q = s.quota q := by
        have : p.val ≠ q.val := fun e => hq (Fin.ext e.symm)
        simp [State.quota, this]
      rw [hsame]
      exact ⟨hc, hrange⟩
  | directory hk _ he =>
    exact ticketAndCharge_of_same h hk.waitList (.of_keeps hk) hk.quotas (follows_edited he)
  | reshape i l c hl =>
    refine ticketAndCharge_of_same h rfl (.refl s) rfl |> fun _ => ⟨h.1, h.2.of_le rfl fun p => ?_⟩
    refine Nat.add_le_add_right (countLeases_congr fun j => ?_).le _
    by_cases hj : j = i
    · subst hj; simp [hl]
    · rw [lease_setLease_of_ne s _ hj]
  | drain i l hl =>
    exact ticketAndCharge_of_same h (endDrain_keeps i l _ s).waitList (sameTickets_endDrain i l _ s)
      (endDrain_keeps i l _ s).quotas (follows_endDrain i hl)
  | holdClose p i n =>
    exact ticketAndCharge_of_same h (holdClose_keeps p i n s).waitList (sameTickets_holdClose p i n s)
      (holdClose_keeps p i n s).quotas (.of_keeps (holdClose_keeps p i n s))
  | openGrant p c i ho hq =>
    have hi : s.freeEntry = some i := by
      unfold State.openEntry at ho
      split at ho
      · exact ho
      · cases ho
    exact ⟨h.1, h.2.of_quota rfl hq (charge_grantLease (freeEntry_free hi) p c)⟩
  | enqueue p k c r hslot hlen hq =>
    exact ticketAndCharge_enqueue ⟨rfl, rfl⟩ hslot hq rfl rfl rfl (ticket_setTicket_self s p k _)
      (fun q m hne => ticket_setTicket_of_ne s _ hne) h
  | scan => exact ticketAndCharge_scan h
  | refuse f r => exact ticketAndCharge_refuse f r h
  | leave p k x hx => exact ticketAndCharge_leave p k hx h
  | freeTicket p k hk => exact ticketAndCharge_freeTicket hk h
  | waitTick => exact ticketAndCharge_waitTick h
  | clearPort p => exact ticketAndCharge_clearPort p h
  | arbiter hk => exact hkeeps hk (by decide) (by decide) (by decide) (by decide)
  | rise p =>
    exact hkeeps ((keeps_setRequester s p _).trans (arbitrate_keeps _)) (by decide) (by decide) (by decide)
      (by decide)
  | wait p => exact hkeeps (keeps_setRequester s p _) (by decide) (by decide) (by decide) (by decide)
  | fall p r => exact hkeeps (loseGrant_keeps p r s) (by decide) (by decide) (by decide) (by decide)
  | unstall => exact h
  | stall w => exact h
  | post w =>
    exact ticketAndCharge_of_same h (admitWrite_keeps w s).waitList (.of_keeps (admitWrite_keeps w s))
      (admitWrite_keeps w s).quotas (follows_of_countAdmission fun _ => rfl)
  | admitStalled =>
    exact ticketAndCharge_of_same h (admitStalled_keeps s).waitList (.of_keeps (admitStalled_keeps s))
      (admitStalled_keeps s).quotas (follows_admitStalled s)
  | takeRead x =>
    have hk : KeepsAllBut [.directory, .read] s { countAdmission x.handle.index s with read := some x } :=
      ((countAdmission_keeps x.handle.index s).mono (by simp)).trans ((keeps_read _ _).mono (by simp))
    exact ticketAndCharge_of_same h hk.waitList (.of_keeps hk) hk.quotas
      (follows_of_countAdmission fun _ => rfl)
  | start => exact hkeeps (startNext_keeps s) (by decide) (by decide) (by decide) (by decide)
  | phase => exact h
  | capture x w => exact hkeeps (capture_keeps x w s) (by decide) (by decide) (by decide) (by decide)
  | finishWrite w rest lost e hq =>
    have hk := finishAccess_keeps w.handle lost (s.withoutWrite rest e)
    exact ticketAndCharge_of_same h hk.waitList (sameTickets_finishAccess w.handle lost (s.withoutWrite rest e))
      hk.quotas (follows_of_finishAccess (u := s.withoutWrite rest e) (fun _ => rfl) fun _ => rfl)
  | finishRead x late words e hx =>
    have hk := finishRead_keeps x late words e s
    have ht := (sameTickets_finishAccess x.handle false (s.withoutRead e)).trans
      (sameTickets_returnRead x late words _)
    exact ticketAndCharge_of_same h hk.waitList (ht.trans (.of_keeps (readEnded_keeps _))) hk.quotas
      (follows_finishRead x late words e s)
  | health t r => exact hkeeps (keeps_setTarget s t r) (by decide) (by decide) (by decide) (by decide)
  | lose t f => exact ticketAndCharge_loseTarget t f rfl (.refl s) rfl (fun _ => rfl) h
  | probeReady t hu w =>
    exact hkeeps (hu.keeps.trans ((keeps_setTarget _ t _).mono (by simp))) (by decide) (by decide) (by decide)
      (by decide)
  | probeLost t f hu =>
    exact ticketAndCharge_loseTarget t f hu.keeps.waitList (.of_keeps hu.keeps) hu.keeps.quotas
      hu.keeps.entry h
  | configure t r o =>
    have hset : TicketLaw (s.setTarget t r) ∧ ChargeLaw (s.setTarget t r) := h
    exact ticketAndCharge_refuse _ _ hset

theorem ticketAndCharge_inReset : TicketLaw State.inReset ∧ ChargeLaw State.inReset := by
  unfold TicketLaw ChargeLaw; decide

/-- Settles O10: every move of a step keeps the two laws. A grant by OPEN and a request that joins the list
are below the quota, a grant in a scan turns the ticket's charge into the lease's, and every move that takes
a request off the list settles its ticket. -/
theorem ticketAndChargeLawsAreKept : Obligations.TicketAndChargeLawsAreKept :=
  keptByStep_of_moves (fun _ _ => ticketAndCharge_inReset) (fun _ _ h => h) fun _ _ _ hm =>
    ticketAndCharge_move hm

end Sys2Proof.Machine
end

section
/-! What a scan does to the list and the directory. -/

namespace Sys2Proof.Machine

/-- The request is of this ticket. -/
abbrev Waiter.isOf (p : Port) (k : Slot) (w : Waiter) : Bool := w.port == p && w.slot == k

/-- The entry that a grant to a waiting request makes of entry `i`. -/
def State.grantedEntry (s : State) (i : EntryIx) (w : Waiter) : Entry :=
  { generation := (s.entry i).generation + 1, lease := some (grantedLease s w.port w.claim) }

/-- R34, R35: a walk over the requests `ws` from `s` to `t` has granted those in `granted` and left those in
`left`. -/
structure Scanned (s t : State) (ws granted left : List Waiter) : Prop where
  perm : ws.Perm (granted ++ left)
  sublist : left.Sublist ws
  entry : ∀ i, t.entry i = s.entry i ∨ s.lease i = none ∧ ∃ w, w ∈ granted ∧ t.entry i = s.grantedEntry i w ∧
    (s.target w.claim.target).state.inService = true
  grant : ∀ w, w ∈ granted → ∃ i, s.lease i = none ∧ t.entry i = s.grantedEntry i w ∧
    (ws.countP (Waiter.isOf w.port w.slot) = 1 → t.ticket w.port w.slot = .granted (s.nextHandle i))
  ticket : ∀ p k, ws.countP (Waiter.isOf p k) = 0 → t.ticket p k = s.ticket p k

theorem entry_grantWaiter_self (i : EntryIx) (w : Waiter) (s : State) :
    (grantWaiter i w s).entry i = s.grantedEntry i w := by
  simp [grantWaiter, grantLease, State.grantedEntry]

theorem entry_grantWaiter_of_ne {i j : EntryIx} (w : Waiter) (s : State) (h : j ≠ i) :
    (grantWaiter i w s).entry j = s.entry j := by simp [grantWaiter, grantLease, h]

theorem ticket_grantWaiter_self (i : EntryIx) (w : Waiter) (s : State) :
    (grantWaiter i w s).ticket w.port w.slot = .granted (s.nextHandle i) := ticket_setTicket_self _ _ _ _

theorem ticket_grantWaiter_of_not {i : EntryIx} {w : Waiter} {p : Port} {k : Slot} (s : State)
    (h : Waiter.isOf p k w = false) : (grantWaiter i w s).ticket p k = s.ticket p k := by
  refine ticket_setTicket_of_ne (grantLease i w.port w.claim s) _ fun e => ?_
  obtain ⟨rfl, rfl⟩ := e
  simp [Waiter.isOf] at h

theorem Scanned.cons_granted {s t : State} {ws granted left : List Waiter} {i : EntryIx} {w : Waiter}
    (hi : s.lease i = none) (hin : (s.target w.claim.target).state.inService = true)
    (h : Scanned (grantWaiter i w s) t ws granted left) : Scanned s t (w :: ws) (w :: granted) left := by
  have hother : ∀ j, (grantWaiter i w s).lease j = none → j ≠ i := fun j hj e => by
    subst e
    rw [State.lease, entry_grantWaiter_self] at hj
    cases hj
  have hi_entry : t.entry i = s.grantedEntry i w := by
    rcases h.entry i with he | ⟨hnone, _⟩
    · rw [he, entry_grantWaiter_self]
    · exact absurd rfl (hother i hnone)
  have hsame : ∀ j v, (grantWaiter i w s).lease j = none →
      s.lease j = none ∧ (grantWaiter i w s).grantedEntry j v = s.grantedEntry j v := fun j v hj => by
    have he := entry_grantWaiter_of_ne w s (hother j hj)
    refine ⟨by rwa [State.lease, he] at hj, ?_⟩
    unfold State.grantedEntry
    rw [he]
    rfl
  refine ⟨h.perm.cons w, h.sublist.cons w, fun j => ?_, fun v hv => ?_, fun p k hpk => ?_⟩
  · by_cases hj : j = i
    · subst hj
      exact .inr ⟨hi, w, .head _, hi_entry, hin⟩
    · rcases h.entry j with he | ⟨hnone, v, hv, he, hvin⟩
      · exact .inl (he.trans (entry_grantWaiter_of_ne w s hj))
      · obtain ⟨hfree, hgrant⟩ := hsame j v hnone
        exact .inr ⟨hfree, v, .tail _ hv, he.trans hgrant, hvin⟩
  · rcases List.mem_cons.mp hv with rfl | hv
    · refine ⟨i, hi, hi_entry, fun hone => ?_⟩
      have hzero : ws.countP (Waiter.isOf v.port v.slot) = 0 := by
        simpa [List.countP_cons] using hone
      rw [h.ticket _ _ hzero, ticket_grantWaiter_self]
    · obtain ⟨j, hj, he, hticket⟩ := h.grant v hv
      obtain ⟨hfree, hgrant⟩ := hsame j v hj
      refine ⟨j, hfree, he.trans hgrant, fun hone => ?_⟩
      have hpos : 0 < ws.countP (Waiter.isOf v.port v.slot) :=
        List.countP_pos_iff.mpr ⟨v, h.perm.mem_iff.mpr (List.mem_append_left _ hv), by simp [Waiter.isOf]⟩
      rw [List.countP_cons] at hone
      rw [hticket (by omega)]
      simp only [State.nextHandle, entry_grantWaiter_of_ne w s (hother j hj)]
  · rw [List.countP_cons] at hpk
    have hw : Waiter.isOf p k w = false := by
      by_contra hno
      rw [if_pos (by simpa using hno)] at hpk
      omega
    rw [h.ticket p k (by omega), ticket_grantWaiter_of_not s hw]

theorem Scanned.cons_left {s t : State} {ws granted left : List Waiter} (w : Waiter)
    (h : Scanned s t ws granted left) : Scanned s t (w :: ws) granted (w :: left) := by
  refine ⟨(h.perm.cons w).trans List.perm_middle.symm, h.sublist.cons_cons w, h.entry, fun v hv => ?_,
    fun p k hpk => ?_⟩
  · obtain ⟨j, hj, he, hticket⟩ := h.grant v hv
    refine ⟨j, hj, he, fun hone => hticket ?_⟩
    have hpos : 0 < ws.countP (Waiter.isOf v.port v.slot) :=
      List.countP_pos_iff.mpr ⟨v, h.perm.mem_iff.mpr (List.mem_append_left _ hv), by simp [Waiter.isOf]⟩
    rw [List.countP_cons] at hone
    omega
  · rw [List.countP_cons] at hpk
    exact h.ticket p k (by omega)

theorem scanFrom_scanned (ws kept : List Waiter) (s : State) : ∃ granted left,
    Scanned s (scanFrom ws kept s) ws granted left ∧
      (scanFrom ws kept s).waitList = kept.reverse ++ left := by
  induction ws generalizing kept s with
  | nil =>
    exact ⟨[], [], ⟨.refl _, .refl _, fun _ => .inl rfl, nofun, fun _ _ _ => rfl⟩,
      (List.append_nil _).symm⟩
  | cons w rest ih =>
    unfold scanFrom
    split
    · next i hi =>
      split at hi
      · next hg =>
        obtain ⟨granted, left, h, hlist⟩ := ih kept (grantWaiter i w s)
        exact ⟨w :: granted, left, h.cons_granted (freeEntry_free hi) (scanGrantable_iff.mp hg).1, hlist⟩
      · cases hi
    · obtain ⟨granted, left, h, hlist⟩ := ih (w :: kept) s
      exact ⟨granted, w :: left, h.cons_left w, by rw [hlist]; simp⟩

/-- R34, R35: what a scan does. -/
theorem scan_scanned (s : State) :
    ∃ granted, Scanned s (scan s) s.waitList granted (scan s).waitList := by
  obtain ⟨granted, left, h, hlist⟩ := scanFrom_scanned s.waitList [] s
  have hleft : (scan s).waitList = left := hlist
  exact ⟨granted, by rwa [hleft]⟩

/-- R35: a lease after a scan stood before it, or is a new one of a request that was on the list. -/
theorem lease_scan_cases {s : State} {i : EntryIx} {l : Lease} (h : (scan s).lease i = some l) :
    s.lease i = some l ∨ s.lease i = none ∧ ∃ w, w ∈ s.waitList ∧ l = grantedLease s w.port w.claim ∧
      (s.target w.claim.target).state.inService = true := by
  obtain ⟨granted, hs⟩ := scan_scanned s
  rcases hs.entry i with he | ⟨hnone, w, hw, he, hin⟩
  · exact .inl (by rwa [State.lease, he] at h)
  · rw [State.lease, he] at h
    exact .inr ⟨hnone, w, hs.perm.mem_iff.mpr (List.mem_append_left _ hw), (Option.some.inj h).symm, hin⟩

/-! ### The wait list along a move -/

/-- What a request keeps while it waits: all but its timer, which only goes down. -/
structure Waiter.Follows (v w : Waiter) : Prop where
  port : w.port = v.port
  slot : w.slot = v.slot
  claim : w.claim = v.claim
  remaining : w.remaining = v.remaining ∨
    ∃ m n, v.remaining = some m ∧ w.remaining = some n ∧ 1 ≤ n ∧ n ≤ m

theorem Waiter.Follows.refl (w : Waiter) : w.Follows w := ⟨rfl, rfl, rfl, .inl rfl⟩

theorem Waiter.follows_ticked (w : Waiter) : w.Follows w.ticked := by
  unfold Waiter.ticked
  split
  · exact .refl w
  · next r hr =>
    split
    · exact ⟨rfl, rfl, rfl, .inl rfl⟩
    · exact ⟨rfl, rfl, rfl, .inr ⟨r, r - 1, hr, rfl, by omega, by omega⟩⟩

/-- Every request on the list was on it, and the list is no longer, nor is it for any ticket. -/
structure WaitersFollow (s t : State) : Prop where
  length : t.waitList.length ≤ s.waitList.length
  follow : ∀ w, w ∈ t.waitList → ∃ v, v ∈ s.waitList ∧ v.Follows w
  count : ∀ p k, t.waitersOf p k ≤ s.waitersOf p k

theorem WaitersFollow.of_sublist {s t : State} (h : t.waitList.Sublist s.waitList) : WaitersFollow s t :=
  ⟨h.length_le, fun w hw => ⟨w, h.subset hw, .refl w⟩, fun _ _ => h.countP_le⟩

theorem WaitersFollow.of_eq {s t : State} (h : t.waitList = s.waitList) : WaitersFollow s t :=
  .of_sublist (h ▸ .refl _)

theorem Move.waitList_cases {g : Stage} {s t : State} (hm : Move g s t) :
    WaitersFollow s t ∨ ∃ p k c r, g = .opening ∧ s.waitList.length < Config.waitListDepth ∧
      s.targetOfWindow c.window = some c.target ∧ c.window.InRange 256 ∧
      (∀ n, r = some n → 1 ≤ n ∧ n ≤ 65535) ∧ t = { s.setTicket p k .waiting with
        waitList := s.waitList ++ [{ port := p, slot := k, claim := c, remaining := r, due := false }] } := by
  have hkeeps : ∀ {may : List Part}, KeepsAllBut may s t → .waitList ∉ may → WaitersFollow s t :=
    fun hk hw => .of_eq (hk.waitList hw)
  cases hm with
  | aside hk => exact .inl (.of_eq hk.waitList)
  | clock hk => exact .inl (.of_eq hk.waitList)
  | link => exact .inl (.of_eq rfl)
  | quota => exact .inl (.of_eq rfl)
  | directory hk => exact .inl (.of_eq hk.waitList)
  | reshape => exact .inl (.of_eq rfl)
  | drain i l => exact .inl (.of_eq (endDrain_keeps i l _ s).waitList)
  | holdClose p i n => exact .inl (.of_eq (holdClose_keeps p i n s).waitList)
  | openGrant => exact .inl (.of_eq rfl)
  | enqueue p k c r hslot hlen hq ht hw hr => exact .inr ⟨p, k, c, r, rfl, hlen, ht, hw, hr, rfl⟩
  | scan =>
    obtain ⟨granted, h⟩ := scan_scanned s
    exact .inl (.of_sublist h.sublist)
  | refuse f r => exact .inl (.of_sublist (by rw [waitList_refuseWaiters]; exact List.filter_sublist))
  | leave => exact .inl (.of_sublist List.filter_sublist)
  | freeTicket => exact .inl (.of_eq rfl)
  | waitTick =>
    refine .inl ⟨by simp, fun w hw => ?_, fun p k => ?_⟩
    · obtain ⟨v, hv, rfl⟩ := List.mem_map.mp hw
      exact ⟨v, hv, v.follows_ticked⟩
    · unfold State.waitersOf
      rw [List.countP_map]
      refine (List.countP_congr fun w _ => ?_).le
      simp [w.follows_ticked.port, w.follows_ticked.slot]
  | clearPort => exact .inl (.of_sublist List.filter_sublist)
  | arbiter hk => exact .inl (.of_eq hk.waitList)
  | rise p => exact .inl (.of_eq ((keeps_setRequester s p _).trans (arbitrate_keeps _)).waitList)
  | wait => exact .inl (.of_eq rfl)
  | fall p r => exact .inl (.of_eq (loseGrant_keeps p r s).waitList)
  | unstall => exact .inl (.of_eq rfl)
  | stall => exact .inl (.of_eq rfl)
  | post w => exact .inl (.of_eq (admitWrite_keeps w s).waitList)
  | admitStalled => exact .inl (.of_eq (admitStalled_keeps s).waitList)
  | takeRead x => exact .inl (.of_eq (countAdmission_keeps x.handle.index s).waitList)
  | start => exact .inl (.of_eq (startNext_keeps s).waitList)
  | phase => exact .inl (.of_eq rfl)
  | capture x w => exact .inl (.of_eq (capture_keeps x w s).waitList)
  | finishWrite w rest lost e =>
    exact .inl (.of_eq (finishAccess_keeps w.handle lost (s.withoutWrite rest e)).waitList)
  | finishRead x late words e => exact .inl (.of_eq (finishRead_keeps x late words e s).waitList)
  | health => exact .inl (.of_eq rfl)
  | lose v f => exact .inl (.of_sublist (by rw [waitList_loseTarget]; exact List.filter_sublist))
  | probeReady v hu w => exact .inl (.of_eq hu.keeps.waitList)
  | probeLost v f hu =>
    refine .inl (.of_sublist ?_)
    rw [waitList_loseTarget, hu.keeps.waitList]
    exact List.filter_sublist
  | configure v r o =>
    refine .inl (.of_sublist ?_)
    have hlist : (refuseWaiters (fun w => w.claim.target == v) .targetDown (s.setTarget v r)).waitList =
        s.waitList.filter fun w => !(w.claim.target == v) := waitList_refuseWaiters _ _ _
    exact hlist ▸ List.filter_sublist

/-! ### The targets and the probe slots along a move -/

/-- No occupying entry and no waiting request names the target. -/
def Abandoned (t : State) (v : TargetIx) : Prop :=
  (∀ i l, t.lease i = some l → l.occupying = true → l.claim.target ≠ v) ∧
    ∀ w, w ∈ t.waitList → w.claim.target ≠ v

theorem Lease.settleLost_not_occupying {l m : Lease} (h : l.settleLost = some m) : m.occupying = false := by
  unfold Lease.settleLost at h
  split at h
  · obtain rfl := Option.some.inj h; rfl
  · obtain rfl := Option.some.inj h; rfl
  · cases h
  · next r b hs =>
    unfold Lease.drained at h
    simp only [hs] at h
    split at h
    · cases h
    · obtain rfl := Option.some.inj h; rfl
  · next r hs =>
    obtain rfl := Option.some.inj h
    simp [Lease.occupying, hs]

/-- R160: a lost target has no occupying entry and no waiting request. -/
theorem abandoned_loseTarget (v : TargetIx) (f : LastFault) (s : State) : Abandoned (loseTarget v f s) v := by
  refine ⟨fun i m hm ho hv => ?_, fun w hw hv => ?_⟩
  · rw [lease_loseTarget] at hm
    obtain ⟨l, hl, hlost⟩ := Option.bind_eq_some_iff.mp hm
    split at hlost
    · have := Lease.settleLost_not_occupying hlost
      simp [ho] at this
    · next hne =>
      obtain rfl := Option.some.inj hlost
      exact hne hv
  · rw [waitList_loseTarget] at hw
    have := (List.mem_filter.mp hw).2
    simp [hv] at this

/-- What a step that does not set target `v` up anew can make of it: health, loss, or the end of its probe. -/
def Reported (s t : State) (v : TargetIx) : Prop :=
  (t.target v).settings = (s.target v).settings ∧
    ((s.target v).timeouts ≤ 2 → (t.target v).timeouts ≤ 2) ∧
    ((((t.target v).state = (s.target v).state ∨
        (s.target v).state.inService = true ∧ (t.target v).state.inService = true) ∧
        (t.probe v).isSome = (s.probe v).isSome) ∨
      ((s.target v).state.inService = true ∧ ((t.target v).state = .offline ∧ Abandoned t v) ∧
        (t.probe v).isSome = (s.probe v).isSome) ∨
      (s.probe v ≠ none ∧ t.probe v = none ∧
        ((t.target v).state = .ready ∨ ((t.target v).state = .offline ∧ Abandoned t v))))

theorem Reported.of_same {s t : State} {v : TargetIx} (ht : t.target v = s.target v)
    (hp : (t.probe v).isSome = (s.probe v).isSome) : Reported s t v :=
  ⟨by rw [ht], by rw [ht]; exact id, .inl ⟨.inl (by rw [ht]), hp⟩⟩

theorem Reported.of_keeps {may : List Part} {s t : State} (h : KeepsAllBut may s t) (v : TargetIx)
    (ht : .targets ∉ may := by decide) (hp : .probes ∉ may := by decide) : Reported s t v :=
  .of_same (h.target v ht) (by rw [h.probe v hp])

/-- R153, R157: the state after a target has got another record. -/
def State.reconfigured (s : State) (v : TargetIx) (r : TargetRecord) (o : Option Probe) : State :=
  (refuseWaiters (fun w => w.claim.target == v) .targetDown (s.setTarget v r)).setProbe v o

theorem reconfigured_keeps (s : State) (v : TargetIx) (r : TargetRecord) (o : Option Probe) :
    KeepsAllBut [.targets, .links, .waitList, .probes] s (s.reconfigured v r o) :=
  ((keeps_setTarget s v r).mono (by simp)).trans (((refuseWaiters_keeps _ _ _).mono (by simp)).trans
    ((keeps_setProbe _ v o).mono (by simp)))

theorem probe_loseTarget (v u : TargetIx) (f : LastFault) (s : State) :
    (loseTarget v f s).probe u = s.probe u := (loseTarget_keeps v f s).probe u

theorem probe_capture (h : Holding) (w : Word) (s : State) (v : TargetIx) :
    ((capture h w s).probe v).isSome = (s.probe v).isSome := by
  unfold capture
  split
  · rfl
  · split <;> rfl
  · next u =>
    split
    · next x hx =>
      by_cases h : v = u
      · subst h; simp [hx]
      · simp [h]
    · rfl

theorem Move.target_cases {g : Stage} {s t : State} (hm : Move g s t) :
    (∀ v, Reported s t v) ∨ ∃ v r o, s.targetBusy v = false ∧ NewRecord s v r ∧
      ((o = s.probe v ∧ r.state ≠ .probing) ∨ (o.isSome = true ∧ r.state = .probing)) ∧
      t = s.reconfigured v r o := by
  cases hm with
  | aside hk => exact .inl fun v => .of_keeps hk v
  | clock hk => exact .inl fun v => .of_keeps hk v
  | link => exact .inl fun v => .of_same rfl rfl
  | quota => exact .inl fun v => .of_same rfl rfl
  | directory hk => exact .inl fun v => .of_keeps hk v
  | reshape => exact .inl fun v => .of_same rfl rfl
  | drain i l => exact .inl fun v => .of_keeps (endDrain_keeps i l _ s) v
  | holdClose p i n => exact .inl fun v => .of_keeps (holdClose_keeps p i n s) v
  | openGrant => exact .inl fun v => .of_same rfl rfl
  | enqueue => exact .inl fun v => .of_same rfl rfl
  | scan => exact .inl fun v => .of_keeps (scan_keeps s) v
  | refuse f r => exact .inl fun v => .of_keeps (refuseWaiters_keeps f r s) v
  | leave => exact .inl fun v => .of_same rfl rfl
  | freeTicket => exact .inl fun v => .of_same rfl rfl
  | waitTick => exact .inl fun v => .of_same rfl rfl
  | clearPort => exact .inl fun v => .of_same rfl rfl
  | arbiter hk => exact .inl fun v => .of_keeps hk v
  | rise p => exact .inl fun v => .of_keeps ((keeps_setRequester s p _).trans (arbitrate_keeps _)) v
  | wait => exact .inl fun v => .of_same rfl rfl
  | fall p r => exact .inl fun v => .of_keeps (loseGrant_keeps p r s) v
  | unstall => exact .inl fun v => .of_same rfl rfl
  | stall => exact .inl fun v => .of_same rfl rfl
  | post w => exact .inl fun v => .of_keeps (admitWrite_keeps w s) v
  | admitStalled => exact .inl fun v => .of_keeps (admitStalled_keeps s) v
  | takeRead x =>
    have hk := countAdmission_keeps x.handle.index s
    exact .inl fun v => .of_same (hk.target v) (congrArg _ (hk.probe v))
  | start => exact .inl fun v => .of_keeps (startNext_keeps s) v
  | phase => exact .inl fun v => .of_same rfl rfl
  | capture x w => exact .inl fun v => .of_same ((capture_keeps x w s).target v) (probe_capture x w s v)
  | finishWrite w rest lost e =>
    have hk := finishAccess_keeps w.handle lost (s.withoutWrite rest e)
    exact .inl fun v => .of_same (hk.target v) (congrArg _ (hk.probe v))
  | finishRead x late words e => exact .inl fun v => .of_keeps (finishRead_keeps x late words e s) v
  | health u r hset hstate hn =>
    refine .inl fun v => ?_
    by_cases h : v = u
    · subst h
      exact ⟨by simpa using hset, fun _ => by simpa using hn, .inl ⟨by simpa using hstate, rfl⟩⟩
    · exact .of_same (by simp [h]) rfl
  | lose u f hin =>
    refine .inl fun v => ?_
    by_cases h : v = u
    · subst h
      have ht := target_loseTarget_self v f s
      exact ⟨by rw [ht], by rw [ht]; exact id,
        .inr (.inl ⟨hin, ⟨by rw [ht], abandoned_loseTarget v f s⟩, by rw [probe_loseTarget]⟩)⟩
    · exact .of_same (target_loseTarget_of_ne _ _ _ h) (by rw [probe_loseTarget])
  | probeReady u hu w =>
    refine .inl fun v => ?_
    by_cases h : v = u
    · subst h
      exact ⟨by simpa using hu.settings, fun hn => by simpa [hu.timeouts] using hn,
        .inr (.inr ⟨hu.filled, hu.probe, .inl (by simp)⟩)⟩
    · exact .of_same (by simp [h, hu.targets v h]) (congrArg _ (hu.probes v h))
  | @probeLost _ left u f hu =>
    refine .inl fun v => ?_
    by_cases h : v = u
    · subst h
      have ht := target_loseTarget_self v f left
      exact ⟨by rw [ht]; exact hu.settings, by rw [ht]; exact fun hn => hu.timeouts ▸ hn,
        .inr (.inr ⟨hu.filled, by rw [probe_loseTarget, hu.probe], .inr ⟨by rw [ht], abandoned_loseTarget v f left⟩⟩)⟩
    · exact .of_same ((target_loseTarget_of_ne _ _ _ h).trans (hu.targets v h))
        (by rw [probe_loseTarget, hu.probes v h])
  | configure v r o hb hr ho => exact .inr ⟨v, r, o, hb, hr, ho.imp_right And.right, rfl⟩

theorem target_reconfigured_self (s : State) (v : TargetIx) (r : TargetRecord) (o : Option Probe) :
    (s.reconfigured v r o).target v = r := by
  have h := (refuseWaiters_keeps (fun w => w.claim.target == v) .targetDown (s.setTarget v r)).target v
  exact h.trans (by simp)

theorem target_reconfigured_of_ne {s : State} {u v : TargetIx} (r : TargetRecord) (o : Option Probe)
    (h : u ≠ v) : (s.reconfigured v r o).target u = s.target u := by
  have ht := (refuseWaiters_keeps (fun w => w.claim.target == v) .targetDown (s.setTarget v r)).target u
  exact ht.trans (by simp [h])

theorem probe_reconfigured_self (s : State) (v : TargetIx) (r : TargetRecord) (o : Option Probe) :
    (s.reconfigured v r o).probe v = o := by simp [State.reconfigured]

theorem probe_reconfigured_of_ne {s : State} {u v : TargetIx} (r : TargetRecord) (o : Option Probe)
    (h : u ≠ v) : (s.reconfigured v r o).probe u = s.probe u := by
  have hp := (refuseWaiters_keeps (fun w => w.claim.target == v) .targetDown (s.setTarget v r)).probe u
  have hset : (s.reconfigured v r o).probe u =
      (refuseWaiters (fun w => w.claim.target == v) .targetDown (s.setTarget v r)).probe u := by
    simp [State.reconfigured, h]
  exact hset.trans hp

/-! ### The laws of R148, R149 and R133 -/

theorem span_eq_settings {s : State} {v : TargetIx} (h : (s.target v).state ≠ .unconfigured) :
    s.span v = (s.target v).settings.map (·.span) := by
  unfold State.span
  split
  · next hu => exact absurd hu h
  · rfl

theorem span_unconfigured {s : State} {v : TargetIx} (h : (s.target v).state = .unconfigured) :
    s.span v = none := by simp [State.span, h]

theorem span_congr {s t : State} {v : TargetIx} (h : t.target v = s.target v) : t.span v = s.span v := by
  simp only [State.span, h]

theorem inService_ne_unconfigured {x : TargetState} (h : x.inService = true) : x ≠ .unconfigured := by
  rintro rfl; cases h

theorem Reported.unconfigured_iff {s t : State} {v : TargetIx} (h : Reported s t v) (hp : ProbeLaw s) :
    (t.target v).state = .unconfigured ↔ (s.target v).state = .unconfigured := by
  obtain ⟨-, -, ⟨hs | ⟨hs, ht⟩, -⟩ | ⟨hs, ⟨ht, -⟩, -⟩ | ⟨hs, -, ht⟩⟩ := h
  · rw [hs]
  · exact iff_of_false (inService_ne_unconfigured ht) (inService_ne_unconfigured hs)
  · exact iff_of_false (by simp [ht]) (inService_ne_unconfigured hs)
  · have hprobing := (hp v).mp (Option.isSome_iff_ne_none.mpr hs)
    exact iff_of_false (by rcases ht with ht | ⟨ht, -⟩ <;> simp [ht]) (by simp [hprobing])

theorem Reported.span {s t : State} {v : TargetIx} (h : Reported s t v) (hp : ProbeLaw s) :
    t.span v = s.span v := by
  by_cases hu : (s.target v).state = .unconfigured
  · rw [span_unconfigured hu, span_unconfigured ((h.unconfigured_iff hp).mpr hu)]
  · rw [span_eq_settings hu, span_eq_settings fun e => hu ((h.unconfigured_iff hp).mp e), h.1]

theorem ProbeLaw.of_reported {s t : State} {v : TargetIx} (h : Reported s t v) (hp : ProbeLaw s) :
    (t.probe v).isSome = true ↔ (t.target v).state = .probing := by
  have hv := hp v
  have hout : ∀ {x : TargetState}, x.inService = true → x ≠ .probing := by rintro _ h rfl; cases h
  obtain ⟨-, -, ⟨hs | ⟨hs, ht⟩, hsame⟩ | ⟨hs, ⟨ht, -⟩, hsame⟩ | ⟨-, hnone, ht⟩⟩ := h
  · rw [hsame, hs, hv]
  · rw [hsame, hv]
    exact iff_of_false (hout hs) (hout ht)
  · rw [hsame, hv]
    exact iff_of_false (hout hs) (by simp [ht])
  · rw [hnone]
    exact iff_of_false (by simp) (by rcases ht with ht | ⟨ht, -⟩ <;> simp [ht])

theorem Window.overlaps_comm (a b : Window) : a.overlaps b = b.overlaps a := by
  simp only [Window.overlaps, Bool.decide_and]
  exact Bool.and_comm _ _

theorem overlapping_eq_none_iff {s : State} {v : TargetIx} {w : Window} : s.overlapping v w = none ↔
    ∀ u x, u ≠ v → s.span u = some x → w.overlaps x = false := by
  simp only [State.overlapping, List.find?_eq_none, Bool.and_eq_true, bne_iff_ne, Option.any_eq_true, not_and,
    not_exists, Bool.not_eq_true]
  have hall : ∀ u : TargetIx, u ∈ allTargets := by decide
  exact ⟨fun h u x hu hx => h u (hall u) hu x hx, fun h u _ hu x hx => h u x hu hx⟩

theorem mapAndProbe_move {g : Stage} {s t : State} (hm : Move g s t) (h : MapLaw s ∧ ProbeLaw s) :
    MapLaw t ∧ ProbeLaw t := by
  obtain ⟨⟨hset, hspans⟩, hp⟩ := h
  rcases hm.target_cases with hr | ⟨v, r, o, hb, hr, ho, rfl⟩
  · refine ⟨⟨fun u => ?_, fun u v a b huv ha hb => ?_⟩, fun u => hp.of_reported (hr u)⟩
    · rw [(hr u).1, hset u, (hr u).unconfigured_iff hp]
    · rw [(hr u).span hp] at ha
      rw [(hr v).span hp] at hb
      exact hspans u v a b huv ha hb
  · have hother : ∀ u, u ≠ v → (s.reconfigured v r o).target u = s.target u :=
      fun u hu => target_reconfigured_of_ne r o hu
    have hself := target_reconfigured_self s v r o
    have hspan : ∀ x, (s.reconfigured v r o).span v = some x → s.overlapping v x = none := fun x hx => by
      by_cases hu : r.state = .unconfigured
      · rw [span_unconfigured (by rw [hself, hu])] at hx
        cases hx
      · rw [span_eq_settings (by rwa [hself]), hself] at hx
        obtain ⟨y, hy, rfl⟩ := Option.map_eq_some_iff.mp hx
        exact hr.apart y hy
    refine ⟨⟨fun u => ?_, fun a b x y hab hx hy => ?_⟩, fun u => ?_⟩
    · by_cases hu : u = v
      · subst hu; rw [hself]; exact hr.mapped
      · rw [hother u hu]; exact hset u
    · by_cases ha : a = v
      · subst ha
        rw [span_congr (hother b (Ne.symm hab))] at hy
        exact overlapping_eq_none_iff.mp (hspan x hx) b y (Ne.symm hab) hy
      · rw [span_congr (hother a ha)] at hx
        by_cases hb : b = v
        · subst hb
          rw [Window.overlaps_comm]
          exact overlapping_eq_none_iff.mp (hspan y hy) a x ha hx
        · rw [span_congr (hother b hb)] at hy
          exact hspans a b x y hab hx hy
    · by_cases hu : u = v
      · subst hu
        rw [probe_reconfigured_self, hself]
        rcases ho with ⟨rfl, hstate⟩ | ⟨ho, hstate⟩
        · refine iff_of_false (fun hsome => ?_) hstate
          have hprobing := (hp u).mp hsome
          simp [State.targetBusy, hprobing] at hb
        · exact iff_of_true ho hstate
      · rw [probe_reconfigured_of_ne r o hu, hother u hu]
        exact hp u

theorem mapLaw_inReset : MapLaw State.inReset := by
  have hset : ∀ v, (State.inReset.target v).settings = none ↔
      (State.inReset.target v).state = .unconfigured := by decide
  have hspan : ∀ v, State.inReset.span v = none := by decide
  exact ⟨hset, fun u v a b _ ha _ => nomatch (hspan u).symm.trans ha⟩

theorem probeLaw_inReset : ProbeLaw State.inReset := by unfold ProbeLaw; decide

/-- Settles O12: every move of a step keeps the two laws. A new record's span is tested against the others
first (R152), and a probe slot is filled and emptied with the state of its target. -/
theorem mapAndProbeLawsAreKept : Obligations.MapAndProbeLawsAreKept :=
  keptByStep_of_moves (fun _ _ => ⟨mapLaw_inReset, probeLaw_inReset⟩) (fun _ _ h => h) fun _ _ _ hm =>
    mapAndProbe_move hm

end Sys2Proof.Machine
end

section
/-! The law of R4: occupying entries and waiting requests lie in the spans of their targets. -/

namespace Sys2Proof.Machine

/-- A span in the map stays what it is, and a target in service stays in service. -/
def SpanKept (s t : State) (v : TargetIx) : Prop :=
  (∀ x, s.span v = some x → t.span v = some x) ∧
    ((s.target v).state.inService = true → (t.target v).state.inService = true)

theorem SpanKept.of_target {s t : State} {v : TargetIx} (h : t.target v = s.target v) : SpanKept s t v :=
  ⟨fun x hx => by rwa [span_congr h], by rw [h]; exact id⟩

/-- A target that keeps its settings and is, or has come to be, in service keeps its span. -/
theorem SpanKept.of_settings {s t : State} {v : TargetIx} (hset : (t.target v).settings = (s.target v).settings)
    (hstate : (t.target v).state.inService = true) : SpanKept s t v := by
  refine ⟨fun x hx => ?_, fun _ => hstate⟩
  have hmapped : (s.target v).state ≠ .unconfigured := fun hu => by rw [span_unconfigured hu] at hx; cases hx
  rw [span_eq_settings (inService_ne_unconfigured hstate), hset, ← span_eq_settings hmapped, hx]

theorem SpanKept.of_state {s t : State} {v : TargetIx} (hset : (t.target v).settings = (s.target v).settings)
    (hstate : (t.target v).state = (s.target v).state) : SpanKept s t v :=
  ⟨fun x hx => by simpa only [State.span, hset, hstate] using hx, by rw [hstate]; exact id⟩

/-- R151: no occupying entry names a target that is not busy. -/
theorem not_occupying_of_not_busy {s : State} {v : TargetIx} (h : s.targetBusy v = false) {i : EntryIx}
    {l : Lease} (hl : s.lease i = some l) (ho : l.occupying = true) : l.claim.target ≠ v := by
  intro hv
  have hpos : 0 < s.occupants v := List.countP_pos_iff.mpr ⟨i, mem_allEntries i, by simp [hl, ho, hv]⟩
  simp [State.targetBusy, hpos] at h

theorem lease_reconfigured (s : State) (v : TargetIx) (r : TargetRecord) (o : Option Probe) (i : EntryIx) :
    (s.reconfigured v r o).lease i = s.lease i :=
  (refuseWaiters_keeps (fun w => w.claim.target == v) .targetDown (s.setTarget v r)).lease i

theorem waitList_reconfigured (s : State) (v : TargetIx) (r : TargetRecord) (o : Option Probe) :
    (s.reconfigured v r o).waitList = s.waitList.filter fun w => !(w.claim.target == v) :=
  waitList_refuseWaiters (fun w => w.claim.target == v) .targetDown (s.setTarget v r)

theorem abandoned_reconfigured {s : State} {v : TargetIx} (h : s.targetBusy v = false) (r : TargetRecord)
    (o : Option Probe) : Abandoned (s.reconfigured v r o) v := by
  refine ⟨fun i l hl ho => ?_, fun w hw hv => ?_⟩
  · rw [lease_reconfigured] at hl
    exact not_occupying_of_not_busy h hl ho
  · rw [waitList_reconfigured] at hw
    have := (List.mem_filter.mp hw).2
    simp [hv] at this

theorem Reported.span_cases {s t : State} {v : TargetIx} (h : Reported s t v) :
    SpanKept s t v ∨ Abandoned t v := by
  obtain ⟨hset, -, ⟨hs | ⟨-, ht⟩, -⟩ | ⟨-, ⟨-, ha⟩, -⟩ | ⟨-, -, ht | ⟨-, ha⟩⟩⟩ := h
  · exact .inl (.of_state hset hs)
  · exact .inl (.of_settings hset ht)
  · exact .inr ha
  · exact .inl (.of_settings hset (by rw [ht]; rfl))
  · exact .inr ha

/-- R4, R42: along a move a target keeps its span and stays in service, or nothing is left that names it. -/
theorem Move.span_cases {g : Stage} {s t : State} (hm : Move g s t) (v : TargetIx) :
    SpanKept s t v ∨ Abandoned t v := by
  rcases hm.target_cases with hr | ⟨u, r, o, hb, -, -, rfl⟩
  · exact (hr v).span_cases
  · by_cases h : v = u
    · subst h; exact .inr (abandoned_reconfigured hb r o)
    · exact .inl (.of_target (target_reconfigured_of_ne r o h))

/-- R4: the claim lies in the span of a target in service. -/
def Served (s : State) (c : Claim) : Prop := (s.target c.target).state.inService = true ∧ InSpan s c

theorem SpanKept.inSpan {s t : State} {c : Claim} (h : SpanKept s t c.target) (hc : InSpan s c) :
    InSpan t c := by
  obtain ⟨x, hx, hin⟩ := hc
  exact ⟨x, h.1 x hx, hin⟩

theorem SpanKept.served {s t : State} {c : Claim} (h : SpanKept s t c.target) (hc : Served s c) :
    Served t c := ⟨h.2 hc.1, h.inSpan hc.2⟩

/-- R27: a target found for a window holds it in its span. -/
theorem inSpan_of_targetOfWindow {s : State} {c : Claim} (h : s.targetOfWindow c.window = some c.target) :
    InSpan s c := by
  have hfound := List.find?_some h
  obtain ⟨x, hx, hin⟩ := (Option.any_eq_true _ _).mp hfound
  exact ⟨x, hx, hin⟩

/-- R29: an OPEN granted at once names a target in service, and its entry was FREE. -/
theorem openEntry_some {s : State} {c : Claim} {i : EntryIx} (h : s.openEntry c = some i) :
    (s.target c.target).state.inService = true ∧ s.freeEntry = some i := by
  unfold State.openEntry at h
  split at h
  · next hg =>
    rw [Bool.and_eq_true] at hg
    exact ⟨hg.1, h⟩
  · cases h

theorem targetLaw_leases_move {g : Stage} {s t : State} (hm : Move g s t) (h : TargetLaw s) {i : EntryIx}
    {m : Lease} (hl : t.lease i = some m) (ho : m.occupying = true) : Served t m.claim := by
  obtain ⟨hleases, hwaiters⟩ := h
  have hkept : Served s m.claim → Served t m.claim := fun hs => by
    rcases hm.span_cases m.claim.target with hk | ha
    · exact hk.served hs
    · exact absurd rfl (ha.1 i m hl ho)
  rcases hm.directory_cases with hf | ⟨p, c, j, hj, -, ht, -, rfl⟩ | rfl | ⟨j, k, c, hk, hs, ht, -, hspan, -, rfl⟩
  · obtain ⟨l, hl, hfollow⟩ := hf i m hl
    exact hkept (hfollow.claim ▸ hleases i l hl (hfollow.occupying ho))
  · obtain ⟨hself, hother⟩ := grantLease_entry j p c s
    by_cases hij : i = j
    · subst hij
      rw [State.lease, hself] at hl
      obtain rfl := Option.some.inj hl
      exact ⟨(openEntry_some hj).1, inSpan_of_targetOfWindow (s := s) ht⟩
    · rw [State.lease, hother i hij] at hl
      exact hleases i m hl ho
  · rcases lease_scan_cases hl with hl | ⟨-, w, hw, rfl, hin⟩
    · exact hkept (hleases i m hl ho)
    · exact hkept ⟨hin, hwaiters w hw⟩
  · by_cases hij : i = j
    · subst hij
      rw [lease_setLease_self] at hl
      obtain rfl := Option.some.inj hl
      obtain ⟨x, hx, hin⟩ := (Option.any_eq_true _ _).mp hspan
      have hserved := (hleases i k hk (by simp [Lease.occupying, hs])).1
      exact ⟨(congrArg (fun v => (s.target v).state.inService) ht).trans hserved, x, hx, hin⟩
    · rw [lease_setLease_of_ne s _ hij] at hl
      exact hleases i m hl ho

theorem targetLaw_move {g : Stage} {s t : State} (hm : Move g s t) (h : TargetLaw s) : TargetLaw t := by
  refine ⟨fun i l hl ho => targetLaw_leases_move hm h hl ho, fun w hw => ?_⟩
  rcases hm.waitList_cases with ⟨-, hf, -⟩ | ⟨p, k, c, r, -, -, ht, -, -, rfl⟩
  · obtain ⟨v, hv, hfollow⟩ := hf w hw
    have hv := h.2 v hv
    rw [← hfollow.claim] at hv
    rcases hm.span_cases w.claim.target with hk | ha
    · exact hk.inSpan hv
    · exact absurd rfl (ha.2 w hw)
  · rcases List.mem_append.mp hw with hw | hw
    · exact h.2 w hw
    · obtain rfl := List.mem_singleton.mp hw
      exact inSpan_of_targetOfWindow (s := s) ht

theorem targetLaw_inReset : TargetLaw State.inReset :=
  ⟨fun i _ hl _ => (nomatch (lease_inReset i).symm.trans hl), nofun⟩

/-- Settles O11: every move of a step keeps the law. A grant is made in the span of a target in service, and
a target that leaves the map or its service leaves no occupying entry and no waiting request behind. -/
theorem targetLawIsKept : Obligations.TargetLawIsKept :=
  keptByStep_of_moves (fun _ _ => targetLaw_inReset) (fun _ _ h => h) fun _ _ _ hm => targetLaw_move hm

end Sys2Proof.Machine
end

section
/-! The law of the bus (R94, R96, R98, R132). -/

namespace Sys2Proof.Machine

/-- The law of the bus for a state whose arbitration is still to come: a port may be WAITING on a FREE bus. -/
structure BusCore (s : State) : Prop where
  owner : ∀ p, s.tgr p = true ↔ s.arb.bus = .owned p
  free : s.arb.bus = .free → s.read = none
  handover : s.arb.bus = .handover ↔ ∃ x, s.read = some x ∧ x.deliver = false
  delivered : ∀ x, s.read = some x → x.deliver = true → s.arb.bus = .owned x.port
  stalled : ∀ w, s.stalled = some w → s.arb.bus = .owned w.port

theorem busLaw_iff {s : State} :
    BusLaw s ↔ BusCore s ∧ (s.arb.bus = .free → ∀ p, s.requester p ≠ .waiting) := by
  constructor
  · rintro ⟨howner, hfree, hhandover, hread, hstalled⟩
    exact ⟨⟨howner, fun h => (hfree h).1, hhandover, hread, hstalled⟩, fun h => (hfree h).2⟩
  · rintro ⟨h, hwait⟩
    exact ⟨h.owner, fun hb => ⟨h.free hb, hwait hb⟩, h.handover, h.delivered, h.stalled⟩

theorem BusLaw.core {s : State} (h : BusLaw s) : BusCore s := (busLaw_iff.mp h).1

theorem BusLaw.congr {s t : State} (h : BusLaw s) (harb : t.arb = s.arb) (hread : t.read = s.read)
    (hst : t.stalled = s.stalled) : BusLaw t := by
  unfold BusLaw State.tgr State.requester at h ⊢
  rw [harb, hread, hst]
  exact h

theorem BusLaw.of_keeps {may : List Part} {s t : State} (h : BusLaw s) (hk : KeepsAllBut may s t)
    (ha : .arbiter ∉ may := by decide) (hr : .read ∉ may := by decide) (hs : .stalled ∉ may := by decide) :
    BusLaw t := h.congr (hk.arb ha) (hk.read hr) (hk.stalled hs)

theorem mem_roundRobin (ptr p : Port) : p ∈ roundRobin ptr := by revert ptr p; decide

/-- R98: an arbitration that selects nobody finds nobody WAITING. -/
theorem not_waiting_of_no_choice {s : State} (h : s.arbitrationChoice = none) (p : Port) :
    s.requester p ≠ .waiting := by
  intro hp
  have hlevel : (s.requesting p).level ∈ ([3, 2, 1, 0] : List (Fin 4)) := by
    generalize (s.requesting p).level = lv
    revert lv
    decide
  have hnone := List.findSome?_eq_none_iff.mp h _ hlevel
  have := List.find?_eq_none.mp hnone p (mem_roundRobin _ p)
  simp [hp] at this

theorem bus_grantBus (p : Port) (s : State) : (grantBus p s).arb.bus = .owned p := rfl

theorem BusCore.grantBus {s : State} (h : BusCore s) (hb : s.arb.bus = .free) (p : Port) :
    BusCore (grantBus p s) := by
  have hread : (Machine.grantBus p s).read = none := h.free hb
  have hnone : ∀ q, s.tgr q = false := fun q => by
    have := (h.owner q).not.mpr (by simp [hb])
    simpa using this
  refine ⟨fun q => ?_, fun e => by simp [bus_grantBus] at e, ?_, fun x hx => ?_, fun w hw => ?_⟩
  · have hq := requester_grantBus p q s
    by_cases hqp : q = p
    · subst hqp
      exact iff_of_true (tgr_of_requester (.inl (by rw [hq, if_pos rfl]))) rfl
    · rw [if_neg hqp] at hq
      have hfalse : (Machine.grantBus p s).tgr q = false := by rw [State.tgr, hq]; exact hnone q
      exact iff_of_false (by simp [hfalse]) (by simpa [bus_grantBus] using Ne.symm hqp)
  · rw [hread]
    exact iff_of_false (by simp [bus_grantBus]) (by simp)
  · rw [hread] at hx; cases hx
  · have := h.stalled w hw
    simp [hb] at this

theorem BusCore.arbitrate {s : State} (h : BusCore s) : BusLaw (arbitrate s) := by
  rcases arbitrate_cases s with e | ⟨p, hb, -, -, e⟩
  · rw [e]
    refine busLaw_iff.mpr ⟨h, fun hb p => ?_⟩
    refine not_waiting_of_no_choice ?_ p
    by_contra hne
    obtain ⟨q, hq⟩ := Option.ne_none_iff_exists'.mp hne
    have hgrant : Machine.arbitrate s = Machine.grantBus q s := by simp [Machine.arbitrate, hb, hq]
    have hbus := congrArg (fun t => t.arb.bus) (e.symm.trans hgrant)
    simp [hb, bus_grantBus] at hbus
  · rw [e]
    exact busLaw_iff.mpr ⟨h.grantBus hb p, fun hfree => by simp [bus_grantBus] at hfree⟩

/-- R102: the pending read is gone from the engine, and the arbiter has been told. -/
theorem BusLaw.readGone {s t : State} (h : BusLaw s) (hread : t.read = none)
    (hst : ∀ w, t.stalled = some w → s.stalled = some w) (harb : t.arb = (readEnded s).arb) : BusLaw t := by
  have hcore := h.core
  rw [arb_readEnded] at harb
  split at harb
  · next hb =>
    have hnone : s.stalled = none := by
      by_contra hne
      obtain ⟨w, hw⟩ := Option.ne_none_iff_exists'.mp hne
      have := hcore.stalled w hw
      simp [hb] at this
    have hfreed : BusCore { s with arb := { s.arb with bus := .free }, read := none } := by
      refine ⟨fun p => ?_, fun _ => rfl, iff_of_false (by simp) (by simp), nofun, fun w hw => ?_⟩
      · have := (hcore.owner p).not.mpr (by simp [hb])
        exact iff_of_false this (by simp)
      · exact absurd (hnone.symm.trans hw) (by simp)
    have harbitrated := hfreed.arbitrate
    have hk := arbitrate_keeps { s with arb := { s.arb with bus := .free }, read := none }
    refine harbitrated.congr (harb.trans (arb_arbitrate_congr rfl)) (hread.trans hk.read.symm) ?_
    rw [hk.stalled]
    cases ht : t.stalled with
    | none => exact hnone.symm
    | some w => exact (hst w ht).symm
  · next hb =>
    refine busLaw_iff.mpr ⟨⟨fun p => ?_, fun _ => hread, ?_, fun x hx => ?_, fun w hw => ?_⟩, fun hfree p => ?_⟩
    · unfold State.tgr State.requester
      rw [harb]
      exact hcore.owner p
    · rw [harb, hread]
      exact iff_of_false hb (by simp)
    · rw [hread] at hx; cases hx
    · rw [harb]
      exact hcore.stalled w (hst w hw)
    · rw [harb] at hfree
      unfold State.requester
      rw [harb]
      exact (busLaw_iff.mp h).2 hfree p

/-- R145, R160: a loss removes the pending read and the stalled write of its target, or neither. -/
theorem BusLaw.loseTarget {s : State} (v : TargetIx) (f : LastFault) (h : BusLaw s) :
    BusLaw (loseTarget v f s) := by
  have hst : ∀ w, (Machine.loseTarget v f s).stalled = some w → s.stalled = some w := fun w hw => by
    rw [stalled_loseTarget] at hw
    exact (Option.filter_eq_some_iff.mp hw).1
  have harb := arb_loseTarget v f s
  have hread := read_loseTarget v f s
  split at harb
  · next hany =>
    refine h.readGone ?_ hst harb
    obtain ⟨x, hx, hv⟩ := (Option.any_eq_true _ _).mp hany
    rw [hread, hx]
    simpa [Option.filter] using hv
  · next hany =>
    have hsame : (Machine.loseTarget v f s).read = s.read := by
      rw [hread]
      cases hx : s.read with
      | none => rfl
      | some x => simpa [Option.filter, hx] using hany
    obtain ⟨hcore, hwait⟩ := busLaw_iff.mp h
    refine busLaw_iff.mpr ⟨⟨fun p => ?_, fun hb => ?_, ?_, fun x hx => ?_, fun w hw => ?_⟩, fun hb p => ?_⟩
    · unfold State.tgr State.requester
      rw [harb]
      exact hcore.owner p
    · rw [hsame]
      exact hcore.free (harb ▸ hb)
    · rw [harb, hsame]
      exact hcore.handover
    · rw [harb]
      exact hcore.delivered x (hsame ▸ hx)
    · rw [harb]
      exact hcore.stalled w (hst w hw)
    · unfold State.requester
      rw [harb]
      exact hwait (harb ▸ hb) p

theorem read_discardRead (p : Port) (s : State) : (discardRead p s).read =
    s.read.map fun x => if x.port = p then { x with deliver := false } else x := by
  unfold discardRead
  split
  · next x hx =>
    split
    · next hp => simp [hx, hp]
    · next hp => simp [hx, hp]
  · next hx => simp [hx]

theorem read_grantLost (p : Port) (r : Requester) (s : State) : (grantLost p r s).read =
    s.read.map fun x => if x.port = p then { x with deliver := false } else x :=
  read_discardRead p (s.setRequester p r)

theorem bus_grantLost (p : Port) (r : Requester) (s : State) :
    (grantLost p r s).arb.bus = if s.read.isSome then .handover else .free := by
  have hread := read_grantLost p r s
  have hbus : (grantLost p r s).arb.bus = if (grantLost p r s).read.isSome then .handover else .free := rfl
  rw [hbus, hread, Option.isSome_map]

theorem stalled_grantLost (p : Port) (r : Requester) (s : State) :
    (grantLost p r s).stalled = s.stalled := (discardRead_keeps p (s.setRequester p r)).stalled

theorem BusLaw.loseGrant {s : State} {p : Port} {r : Requester} (h : BusLaw s) (hs : s.stalled = none)
    (hp : s.tgr p = true) (hr : r = .idle ∨ r = .preempted) : BusLaw (loseGrant p r s) := by
  have hcore := h.core
  have howned := (hcore.owner p).mp hp
  have hlost : ∀ x, (grantLost p r s).read = some x → x.deliver = false := fun x hx => by
    rw [read_grantLost] at hx
    obtain ⟨y, hy, rfl⟩ := Option.map_eq_some_iff.mp hx
    cases hd : y.deliver with
    | false => split <;> simp [hd]
    | true =>
      have hport := (hcore.delivered y hy hd).symm.trans howned
      rw [if_pos (by simpa using hport)]
  rw [loseGrant_eq]
  refine BusCore.arbitrate ⟨fun q => ?_, fun hb => ?_, ?_, fun x hx hd => ?_, fun w hw => ?_⟩
  · have hfalse : (grantLost p r s).tgr q = false := by
      rw [State.tgr, requester_grantLost]
      by_cases hq : q = p
      · subst hq; rcases hr with rfl | rfl <;> simp
      · rw [if_neg hq]
        have := (hcore.owner q).not.mpr (by simpa [howned] using Ne.symm hq)
        simpa [State.tgr] using this
    exact iff_of_false (by simp [hfalse]) (by rw [bus_grantLost]; split <;> simp)
  · rw [bus_grantLost] at hb
    split at hb
    · cases hb
    · next hnone =>
      rw [read_grantLost]
      simpa using hnone
  · rw [bus_grantLost]
    constructor
    · intro hb
      split at hb
      · next hsome =>
        obtain ⟨x, hx⟩ := Option.isSome_iff_exists.mp hsome
        exact ⟨_, by rw [read_grantLost, hx]; rfl, hlost _ (by rw [read_grantLost, hx]; rfl)⟩
      · cases hb
    · rintro ⟨x, hx, -⟩
      rw [read_grantLost] at hx
      obtain ⟨y, hy, -⟩ := Option.map_eq_some_iff.mp hx
      simp [hy]
  · rw [hlost x hx] at hd; cases hd
  · rw [stalled_grantLost, hs] at hw; cases hw

/-- R97: a port that was IDLE begins to wait. -/
theorem BusCore.waiting {s : State} (h : BusCore s) {p : Port} (hi : s.requester p = .idle) :
    BusCore (s.setRequester p .waiting) := by
  refine ⟨fun q => ?_, h.free, h.handover, h.delivered, h.stalled⟩
  have hp : s.tgr p = false := by simp [State.tgr, hi]
  have htgr : (s.setRequester p .waiting).tgr q = s.tgr q := by
    rw [tgr_setRequester]
    split
    · next e => subst e; simp [hp]
    · rfl
  rw [htgr]
  exact h.owner q

theorem BusLaw.arbiter {s t : State} (h : BusLaw s) (hk : KeepsAllBut [.arbiter] s t)
    (hbus : t.arb.bus = s.arb.bus) (htgr : ∀ p, t.tgr p = s.tgr p)
    (hwait : ∀ p, t.requester p = .waiting → s.requester p = .waiting) : BusLaw t := by
  unfold BusLaw at h ⊢
  rw [hbus, hk.read, hk.stalled]
  obtain ⟨howner, hfree, hrest⟩ := h
  exact ⟨fun p => by rw [htgr]; exact howner p,
    fun hb => ⟨(hfree hb).1, fun p hp => (hfree hb).2 p (hwait p hp)⟩, hrest⟩

/-- R94: nothing is in hand of the owner: no write is stalled and no pending read is to be delivered. -/
theorem inHand_eq_false_iff {s : State} :
    s.inHand = false ↔ s.stalled = none ∧ ∀ x, s.read = some x → x.deliver = false := by
  unfold State.inHand
  cases s.stalled <;> cases s.read <;> simp

theorem BusLaw.capture {s : State} (h : BusLaw s) (x : Holding) (w : Word) : BusLaw (capture x w s) := by
  unfold Machine.capture
  split
  · exact h
  · split
    · next y hy =>
      unfold BusLaw at h ⊢
      rw [hy] at h
      obtain ⟨howner, hfree, hhandover, hdeliver, hstalled⟩ := h
      refine ⟨howner, fun hb => ?_, hhandover.trans ?_, fun z hz hd => ?_, hstalled⟩
      · cases (hfree hb).1
      · simp
      · obtain rfl := Option.some.inj hz
        exact hdeliver y rfl hd
    · exact h
  · split
    · exact h.of_keeps (keeps_setProbe s _ _)
    · exact h

theorem BusLaw.takeRead {s : State} (h : BusLaw s) {x : PendingRead}
    (hp : Passes s x.port .read x.handle x.target) (hx : x.deliver = true) :
    BusLaw { countAdmission x.handle.index s with read := some x } := by
  have hk := countAdmission_keeps x.handle.index s
  have hcount : BusLaw (countAdmission x.handle.index s) := h.of_keeps hk
  have howned : (countAdmission x.handle.index s).arb.bus = .owned x.port := by rw [hk.arb]; exact hp.owned
  obtain ⟨howner, -, -, -, hstalled⟩ := hcount
  refine ⟨howner, fun hb => ?_, iff_of_false (fun hb => ?_) ?_, fun y hy _ => ?_, hstalled⟩
  · exact absurd (howned.symm.trans hb) (by simp)
  · exact absurd (howned.symm.trans hb) (by simp)
  · rintro ⟨y, hy, hd⟩
    obtain rfl := Option.some.inj hy
    simp [hx] at hd
  · obtain rfl := Option.some.inj hy
    exact howned

theorem busLaw_move {g : Stage} {s t : State} (hm : Move g s t) (h : BusLaw s) : BusLaw t := by
  cases hm with
  | aside hk => exact h.of_keeps hk
  | clock hk => exact h.of_keeps hk
  | link => exact h
  | quota => exact h
  | directory hk => exact h.of_keeps hk
  | reshape => exact h
  | drain i l => exact h.of_keeps (endDrain_keeps i l _ s)
  | holdClose p i n => exact h.of_keeps (holdClose_keeps p i n s)
  | openGrant => exact h
  | enqueue => exact h
  | scan => exact h.of_keeps (scan_keeps s)
  | refuse f r => exact h.of_keeps (refuseWaiters_keeps f r s)
  | leave => exact h
  | freeTicket => exact h
  | waitTick => exact h
  | clearPort => exact h
  | arbiter hk hbus htgr hwait => exact h.arbiter hk hbus htgr hwait
  | rise p hi hb => exact (h.core.waiting hi).arbitrate
  | wait p hi hb => exact busLaw_iff.mpr ⟨h.core.waiting hi, fun hfree => absurd hfree hb⟩
  | fall p r hs hp hr => exact h.loseGrant hs hp hr
  | unstall =>
    obtain ⟨howner, hfree, hhandover, hdeliver, -⟩ := h
    exact ⟨howner, hfree, hhandover, hdeliver, nofun⟩
  | stall w hp =>
    obtain ⟨howner, hfree, hhandover, hdeliver, -⟩ := h
    exact ⟨howner, hfree, hhandover, hdeliver, fun v hv => by obtain rfl := Option.some.inj hv; exact hp.owned⟩
  | post w => exact h.of_keeps (admitWrite_keeps w s)
  | admitStalled =>
    have hk := admitStalled_keeps s
    obtain ⟨hcore, hwait⟩ := busLaw_iff.mp h
    unfold admitStalled
    split
    · exact h
    · split
      · have hunstalled : BusLaw { s with stalled := none } :=
          busLaw_iff.mpr ⟨⟨hcore.owner, hcore.free, hcore.handover, hcore.delivered, nofun⟩, hwait⟩
        exact hunstalled.of_keeps (admitWrite_keeps _ _)
      · exact h
  | takeRead x hp hx => exact h.takeRead hp hx
  | start => exact h.of_keeps (startNext_keeps s)
  | phase => exact h
  | capture x w => exact h.capture x w
  | finishWrite w rest lost e =>
    have hk := finishAccess_keeps w.handle lost (s.withoutWrite rest e)
    exact h.congr hk.arb hk.read hk.stalled
  | finishRead x late words e hx =>
    have hend := finishAccess_keeps x.handle false (s.withoutRead e)
    have hreturn := returnRead_keeps x late words (finishAccess x.handle false (s.withoutRead e)).1
    have hk := finishRead_keeps x late words e s
    refine h.readGone ?_ (fun w hw => ?_) (arb_readEnded_congr (hreturn.arb.trans hend.arb))
    · exact (readEnded_keeps _).read.trans (hreturn.read.trans hend.read)
    · exact hk.stalled.symm.trans hw
  | health => exact h
  | lose v f => exact h.loseTarget v f
  | probeReady v hu => exact h.congr hu.keeps.arb hu.keeps.read hu.keeps.stalled
  | probeLost v f hu => exact (h.of_keeps hu.keeps).loseTarget v f
  | configure v r o =>
    have hk := refuseWaiters_keeps (fun w => w.claim.target == v) .targetDown (s.setTarget v r)
    exact h.congr hk.arb hk.read hk.stalled

theorem busLaw_inReset : BusLaw State.inReset := by
  refine ⟨?_, ?_, iff_of_false (by decide) (by rintro ⟨x, hx, -⟩; cases hx), nofun, nofun⟩ <;> decide

/-- Settles O9: every move of a step keeps the law. Whatever takes the grant from a port or the read from a
bus in HANDOVER is followed by an arbitration, which leaves nobody WAITING on a FREE bus. -/
theorem busLawIsKept : Obligations.BusLawIsKept :=
  keptByStep_of_moves (fun _ _ => busLaw_inReset) (fun _ _ h => h) fun _ _ _ hm => busLaw_move hm

end Sys2Proof.Machine
end

section
/-! What the operations make of the port link units, and the law of waiting CLOSEs (R73, R74). -/

namespace Sys2Proof.Machine

/-! ### The command in hand -/

/-- R74: the link of a port whose CLOSE, if it waits on entry `i`, is answered with end code `c`. -/
def LinkState.closedWith (c : Byte) (i : EntryIx) (k : LinkState) : LinkState :=
  match k with
  | .command { tag := tag, request := _, closing := some w } =>
    if w.index = i then .responseReady { tag := tag, status := .ok, results := [byteOf w.found, c] } else k
  | _ => k

theorem LinkState.closed_eq (i : EntryIx) (k : LinkState) : k.closed i = k.closedWith 0x00 i := by
  unfold LinkState.closed LinkState.closedWith
  rfl

theorem link_answerClose_self (p : Port) (i : EntryIx) (c : Byte) (s : State) :
    (answerClose p i c s).link p = { s.link p with link := (s.link p).link.closedWith c i } := by
  have hsame : ∀ k, (s.link p).link = k → s.link p = { s.link p with link := k } := fun k hk => by rw [← hk]
  unfold answerClose
  split
  · next x hx =>
    obtain ⟨tag, r, closing⟩ := x
    split
    · next w hw =>
      obtain rfl : closing = some w := hw
      split
      · next hi => simp [respond, hx, LinkState.closedWith, hi]
      · next hi => simp only [hx, LinkState.closedWith, hi, if_false]; exact hsame _ hx
    · next hw =>
      obtain rfl : closing = none := hw
      simp only [hx, LinkState.closedWith]
      exact hsame _ hx
  · next hno =>
    unfold LinkState.closedWith
    split
    · next hx => exact absurd hx (hno _)
    · rfl

/-- R74: only the CLOSE in hand of the port, waiting on the entry, is answered. -/
theorem link_answerClose (p q : Port) (i : EntryIx) (c : Byte) (s : State) :
    (answerClose p i c s).link q = { s.link q with
      link := if q = p then (s.link q).link.closedWith c i else (s.link q).link } := by
  by_cases h : q = p
  · subst h; rw [link_answerClose_self, if_pos rfl]
  · rw [answerClose_linksBut p i c s q h, if_neg h]

theorem link_endDrain (i : EntryIx) (l : Lease) (c : Byte) (s : State) (q : Port) :
    (endDrain i l c s).link q = { s.link q with
      link := if l.state = .closing ∧ q = l.holder then (s.link q).link.closedWith c i
        else (s.link q).link } := by
  have hset : ∀ p, (s.setLease i l.drained).link p = s.link p := (keeps_setLease s i _).link
  unfold endDrain
  dsimp only
  split
  · next hs => rw [link_answerClose, hset]; simp [hs]
  · next hs =>
    rw [if_neg fun h => hs h.1]
    exact hset q

/-- R74, R138: the end of an access answers the CLOSE of the entry whose drain it ends. -/
theorem link_finishAccess {h : Handle} {s : State} {l : Lease} (hl : s.lease h.index = some l) (lost : Bool)
    (q : Port) : (finishAccess h lost s).1.link q = { s.link q with
      link := if l.state = .closing ∧ l.outstanding - 1 = 0 ∧ q = l.holder then
          (s.link q).link.closedWith 0x00 h.index
        else (s.link q).link } := by
  unfold finishAccess
  rw [hl]
  dsimp only
  split
  · next hd =>
    rw [link_endDrain]
    simp only [hd.1, true_and]
  · next hd =>
    rw [if_neg fun hc => hd ⟨hc.2.1, by simp [Lease.draining, hc.1]⟩]
    exact (keeps_setLease s _ _).link q

/-- Every command in hand, and every response, is the same. -/
def SameCommands (s t : State) : Prop := ∀ p, (t.link p).link = (s.link p).link

theorem SameCommands.trans {s t u : State} (h : SameCommands s t) (h' : SameCommands t u) :
    SameCommands s u := fun p => (h' p).trans (h p)

theorem SameCommands.of_keeps {may : List Part} {s t : State} (h : KeepsAllBut may s t)
    (hp : .links ∉ may := by decide) : SameCommands s t := fun p => by rw [h.link p hp]

theorem SameCommands.of_link {s t : State} {f : Port → LinkUnit}
    (h : ∀ p, t.link p = f p) (hf : ∀ p, (f p).link = (s.link p).link) : SameCommands s t :=
  fun p => by rw [h, hf]

theorem sameCommands_enterFault (p : Port) (f : AccessFault) (s : State) :
    SameCommands s (enterFault p f s) := fun q => by
  obtain ⟨hself, hother⟩ := enterFault_entered p f s
  by_cases h : q = p
  · subst h; rw [hself]
  · rw [hother q h]

theorem sameCommands_setTicket (s : State) (p : Port) (k : Slot) (x : Ticket) :
    SameCommands s (s.setTicket p k x) := fun q => by
  by_cases h : q = p
  · subst h; simp
  · rw [link_setTicket_of_ne s k x h]

theorem sameCommands_returnRead (x : PendingRead) (late : Bool) (words : List Word) (s : State) :
    SameCommands s (returnRead x late words s) := by
  unfold returnRead
  split
  · split
    · exact sameCommands_enterFault _ _ s
    · exact fun _ => rfl
  · exact fun _ => rfl

theorem sameCommands_foldl {α : Type} {f : State → α → State} (hf : ∀ s a, SameCommands s (f s a))
    (l : List α) (s : State) : SameCommands s (l.foldl f s) := by
  induction l generalizing s with
  | nil => exact fun _ => rfl
  | cons a l ih => exact (hf s a).trans (ih _)

theorem sameCommands_dropRead (t : TargetIx) (s : State) : SameCommands s (dropRead t s) := by
  unfold dropRead
  split
  · exact fun _ => rfl
  · split
    · dsimp only
      refine SameCommands.trans ?_ (.of_keeps (readEnded_keeps _))
      split
      · exact sameCommands_enterFault _ _ _
      · exact fun _ => rfl
    · exact fun _ => rfl

theorem sameCommands_refuseStalledFor (t : TargetIx) (s : State) :
    SameCommands s (refuseStalledFor t s) := by
  unfold refuseStalledFor
  split
  · exact fun _ => rfl
  · split
    · unfold refuseStalled
      split
      · exact fun _ => rfl
      · exact sameCommands_enterFault _ _ _
    · exact fun _ => rfl

theorem sameCommands_accessesLost (t : TargetIx) (f : LastFault) (s : State) :
    SameCommands s (accessesLost t f s) := by
  have hwrites : SameCommands s (discardWrites t (s.offline t f)) :=
    sameCommands_foldl (fun s w p => by rw [link_discardWrite]) _ _
  exact (hwrites.trans (sameCommands_dropRead t _)).trans (sameCommands_refuseStalledFor t _)

/-! ### The CLOSEs of a lost target -/

/-- R74, R161: the CLOSE of entry `i` at port `p` is answered by the loss of target `t`. -/
def State.lostCloseAt (s : State) (t : TargetIx) (p : Port) (i : EntryIx) : Prop :=
  ∃ l, s.lease i = some l ∧ l.claim.target = t ∧ l.state = .closing ∧ l.holder = p

/-- One step of the walk that answers the CLOSEs of a lost target. -/
def answerLostClose (t : TargetIx) (s : State) (i : EntryIx) : State :=
  match s.lease i with
  | some l => if l.claim.target = t ∧ l.state = .closing then answerClose l.holder i 0x03 s else s
  | none => s

theorem answerLostCloses_eq (t : TargetIx) (s : State) :
    answerLostCloses t s = allEntries.foldl (answerLostClose t) s := rfl

theorem answerLostClose_keeps (t : TargetIx) (s : State) (i : EntryIx) :
    KeepsAllBut [.links] s (answerLostClose t s i) := by
  unfold answerLostClose
  split
  · split
    · exact answerClose_keeps _ _ _ s
    · exact .refl _ s
  · exact .refl _ s

open Classical in
theorem link_answerLostClose (t : TargetIx) (s : State) (i : EntryIx) (p : Port) :
    (answerLostClose t s i).link p = { s.link p with
      link := if s.lostCloseAt t p i then (s.link p).link.closedWith 0x03 i else (s.link p).link } := by
  unfold answerLostClose
  cases hl : s.lease i with
  | none => rw [if_neg]; rintro ⟨l, h, -⟩; rw [hl] at h; cases h
  | some l =>
    have hiff : s.lostCloseAt t p i ↔ (l.claim.target = t ∧ l.state = .closing) ∧ p = l.holder := by
      constructor
      · rintro ⟨m, hm, ht, hs, hp⟩
        obtain rfl := Option.some.inj (hl.symm.trans hm)
        exact ⟨⟨ht, hs⟩, hp.symm⟩
      · rintro ⟨⟨ht, hs⟩, hp⟩
        exact ⟨l, hl, ht, hs, hp.symm⟩
    dsimp only
    simp only [hiff]
    split
    · next h => rw [link_answerClose]; simp [h]
    · next h => rw [if_neg fun e => h e.1]

/-- The CLOSE that waits on entry `i`, of a link in this state. -/
def LinkState.WaitsOn (k : LinkState) (i : EntryIx) : Prop :=
  ∃ tag r n, k = .command { tag := tag, request := r, closing := some { index := i, found := n } }

theorem LinkState.closedWith_of_waitsOn {c : Byte} {i j : EntryIx} {tag : Byte} {r : Request} {n : Nat} :
    (LinkState.command { tag := tag, request := r, closing := some { index := j, found := n } }).closedWith c i =
      if j = i then .responseReady { tag := tag, status := .ok, results := [byteOf n, c] }
      else .command { tag := tag, request := r, closing := some { index := j, found := n } } := rfl

theorem LinkState.closedWith_of_not {c : Byte} {i : EntryIx} {k : LinkState} (h : ¬ k.WaitsOn i) :
    k.closedWith c i = k := by
  unfold closedWith
  split
  · next tag r w =>
    split
    · next hi => exact absurd ⟨tag, r, w.found, by rw [← hi]⟩ h
    · rfl
  · rfl

/-- R74: a CLOSE that still waits has not been answered. -/
theorem LinkState.waitsOn_closedWith {c : Byte} {i j : EntryIx} {k : LinkState}
    (h : (k.closedWith c i).WaitsOn j) : k.WaitsOn j ∧ j ≠ i := by
  by_cases hk : k.WaitsOn i
  · obtain ⟨tag, r, n, rfl⟩ := hk
    rw [closedWith_of_waitsOn, if_pos rfl] at h
    obtain ⟨_, _, _, h⟩ := h
    cases h
  · rw [closedWith_of_not hk] at h
    exact ⟨h, by rintro rfl; exact hk h⟩

theorem lostCloseAt_congr {s u : State} (h : ∀ i, u.lease i = s.lease i) (t : TargetIx) (p : Port)
    (i : EntryIx) : u.lostCloseAt t p i ↔ s.lostCloseAt t p i := by
  unfold State.lostCloseAt
  rw [h]

/-- R74, R161: no CLOSE goes on waiting on a CLOSING entry of its port on a lost target. -/
theorem waitsOn_answerLostCloses {t : TargetIx} {s : State} {p : Port} {i : EntryIx}
    (h : ((answerLostCloses t s).link p).link.WaitsOn i) :
    (s.link p).link.WaitsOn i ∧ ¬ s.lostCloseAt t p i := by
  have hwalk : ∀ (is : List EntryIx) (u : State), (∀ j, u.lease j = s.lease j) →
      ((is.foldl (answerLostClose t) u).link p).link.WaitsOn i →
      (u.link p).link.WaitsOn i ∧ (i ∈ is → ¬ s.lostCloseAt t p i) := by
    intro is
    induction is with
    | nil => exact fun u _ h => ⟨h, nofun⟩
    | cons j is ih =>
      intro u hu h
      have hstep : ∀ k, (answerLostClose t u j).lease k = s.lease k :=
        fun k => ((answerLostClose_keeps t u j).lease k).trans (hu k)
      obtain ⟨hw, hrest⟩ := ih _ hstep h
      rw [link_answerLostClose] at hw
      dsimp only at hw
      split at hw
      · next hlost =>
        obtain ⟨hw, hne⟩ := LinkState.waitsOn_closedWith hw
        exact ⟨hw, fun hi => hrest ((List.mem_cons.mp hi).resolve_left hne)⟩
      · next hnot =>
        rw [lostCloseAt_congr hu] at hnot
        exact ⟨hw, fun hi => (List.mem_cons.mp hi).elim (by rintro rfl; exact hnot) hrest⟩
  obtain ⟨hw, hnot⟩ := hwalk allEntries s (fun _ => rfl) h
  exact ⟨hw, hnot (mem_allEntries i)⟩

theorem commands_loseTarget (t : TargetIx) (f : LastFault) (s : State) (p : Port) :
    ((loseTarget t f s).link p).link = ((answerLostCloses t (accessesLost t f s)).link p).link := by
  have hentries : (leasesLost t f s).link p = (answerLostCloses t (accessesLost t f s)).link p :=
    (keeps_entries _ _).link p
  rw [loseTarget_eq, link_refuseWaiters, hentries]

/-! ### The law of waiting CLOSEs -/

theorem closeLaw_iff {s : State} : CloseLaw s ↔ ∀ p i, (s.link p).link.WaitsOn i →
    ∃ l, s.lease i = some l ∧ l.state = .closing ∧ l.holder = p := by
  constructor
  · rintro h p i ⟨tag, r, n, hk⟩
    exact h p tag r _ hk
  · intro h p tag r c hk
    exact h p c.index ⟨tag, r, c.found, hk⟩

/-- A CLOSING entry of port `p` is so still. -/
def ClosingStays (s t : State) (i : EntryIx) : Prop :=
  ∀ l, s.lease i = some l → l.state = .closing →
    ∃ m, t.lease i = some m ∧ m.state = .closing ∧ m.holder = l.holder

theorem ClosingStays.of_lease {s t : State} {i : EntryIx} (h : t.lease i = s.lease i) : ClosingStays s t i :=
  fun l hl hs => ⟨l, h.trans hl, hs, rfl⟩

/-- Whatever waits has waited, and the entries it waits on stay CLOSING. -/
theorem CloseLaw.of_stays {s t : State} (h : CloseLaw s)
    (hs : ∀ p i, (t.link p).link.WaitsOn i → (s.link p).link.WaitsOn i ∧ ClosingStays s t i) :
    CloseLaw t := by
  rw [closeLaw_iff] at h ⊢
  intro p i hw
  obtain ⟨hw, hstays⟩ := hs p i hw
  obtain ⟨l, hl, hclosing, hp⟩ := h p i hw
  obtain ⟨m, hm, hmc, hmh⟩ := hstays l hl hclosing
  exact ⟨m, hm, hmc, hmh.trans hp⟩

theorem CloseLaw.of_same {s t : State} (h : CloseLaw s) (hc : SameCommands s t)
    (hs : ∀ i, ClosingStays s t i) : CloseLaw t :=
  h.of_stays fun p i hw => ⟨by rwa [hc p] at hw, hs i⟩

theorem CloseLaw.of_keeps {may : List Part} {s t : State} (h : CloseLaw s) (hk : KeepsAllBut may s t)
    (hl : .links ∉ may := by decide) (hd : .directory ∉ may := by decide) : CloseLaw t :=
  h.of_same (.of_keeps hk hl) fun i => .of_lease (hk.lease i hd)

/-- R74: the drain of an entry ends, and its CLOSE is answered. -/
theorem CloseLaw.endDrain {s : State} (h : CloseLaw s) {i : EntryIx} {l m : Lease} (hl : s.lease i = some l)
    (hs : m.state = l.state) (hh : m.holder = l.holder) (c : Byte) : CloseLaw (endDrain i m c s) := by
  rw [closeLaw_iff] at h ⊢
  intro p j hw
  rw [link_endDrain] at hw
  dsimp only at hw
  have hother : j ≠ i → (Machine.endDrain i m c s).lease j = s.lease j := fun hj => by
    rw [State.lease, entry_endDrain, entry_setLease_of_ne _ _ hj]
    rfl
  split at hw
  · obtain ⟨hw, hj⟩ := LinkState.waitsOn_closedWith hw
    rw [hother hj]
    exact h p j hw
  · next hnot =>
    have hlaw := h p j hw
    by_cases hj : j = i
    · subst hj
      obtain ⟨k, hk, hclosing, hp⟩ := hlaw
      obtain rfl := Option.some.inj (hl.symm.trans hk)
      exact absurd ⟨hs.trans hclosing, (hh.trans hp).symm⟩ hnot
    · rw [hother hj]
      exact hlaw

theorem CloseLaw.finishAccess {s : State} (h : CloseLaw s) (x : Handle) (lost : Bool) :
    CloseLaw (finishAccess x lost s).1 := by
  unfold Machine.finishAccess
  split
  · exact h
  · next l hl =>
    dsimp only
    split
    · exact h.endDrain hl (by rfl) (by rfl) 0x00
    · refine h.of_same (fun _ => rfl) fun i => ?_
      by_cases hi : i = x.index
      · subst hi
        exact fun k hk hc => ⟨_, lease_setLease_self _ _ _, by
          obtain rfl := Option.some.inj (hl.symm.trans hk); exact ⟨hc, rfl⟩⟩
      · exact .of_lease (lease_setLease_of_ne s _ hi)

theorem CloseLaw.countAdmission {s t : State} {i : EntryIx} (h : CloseLaw s) (hc : SameCommands s t)
    (hentry : ∀ j, t.entry j = (countAdmission i s).entry j) : CloseLaw t := by
  refine h.of_same hc fun j l hl hs => ?_
  rw [State.lease, hentry, entry_countAdmission]
  split
  · exact ⟨{ l with outstanding := l.outstanding + 1 }, by rw [hl]; rfl, hs, rfl⟩
  · exact ⟨l, hl, hs, rfl⟩

theorem CloseLaw.loseTarget {s : State} (h : CloseLaw s) (t : TargetIx) (f : LastFault) :
    CloseLaw (loseTarget t f s) := by
  rw [closeLaw_iff] at h ⊢
  intro p i hw
  rw [commands_loseTarget] at hw
  obtain ⟨hw, hnot⟩ := waitsOn_answerLostCloses hw
  rw [sameCommands_accessesLost] at hw
  obtain ⟨l, hl, hclosing, hp⟩ := h p i hw
  have hmarked : (accessesLost t f s).lease i =
      (s.lease i).map (·.withLost (s.queue.any fun w => w.target == t && w.handle.index == i)) := by
    have hkeeps : KeepsAllBut [.links, .arbiter, .stalled, .answer, .read]
        (discardWrites t (s.offline t f)) (accessesLost t f s) :=
      ((dropRead_keeps t _).mono (by simp)).trans ((refuseStalledFor_keeps t _).mono (by simp))
    rw [hkeeps.lease i, State.lease, entry_discardWrites, Entry.withLost_lease]
    rfl
  have htarget : l.claim.target ≠ t := fun ht => hnot ⟨_, hmarked.trans (congrArg _ hl), ht, hclosing, hp⟩
  rw [lease_loseTarget, hl, Option.bind_some, if_neg htarget]
  exact ⟨_, rfl, hclosing, hp⟩

theorem closingStays_edited {g : Stage} {s t : State} {i : EntryIx}
    (h : Edited g s i (s.lease i) (t.lease i)) : ClosingStays s t i := by
  intro l hl hs
  rw [hl] at h
  cases hm : t.lease i with
  | none => rw [hm] at h; exact absurd hs h.2.1
  | some m => rw [hm] at h; exact ⟨m, rfl, h.1.closing hs, h.1.holder⟩

theorem CloseLaw.grantLease {s t : State} (h : CloseLaw s) {i : EntryIx} (hi : s.lease i = none)
    (hc : SameCommands s t) (hother : ∀ j, j ≠ i → t.lease j = s.lease j) : CloseLaw t := by
  refine h.of_same hc fun j => ?_
  by_cases hj : j = i
  · subst hj
    exact fun l hl => by rw [hi] at hl; cases hl
  · exact .of_lease (hother j hj)

theorem CloseLaw.holdClose {s : State} (h : CloseLaw s) {p : Port} {i : EntryIx} {l : Lease} (n : Nat)
    (hl : s.lease i = some l) (hs : l.state = .closing) (hp : l.holder = p) :
    CloseLaw (holdClose p i n s) := by
  unfold Machine.holdClose
  split
  · rw [closeLaw_iff] at h ⊢
    intro q j hw
    by_cases hq : q = p
    · subst hq
      rw [link_setLink_self] at hw
      obtain ⟨_, _, _, hk⟩ := hw
      obtain ⟨rfl, -⟩ := ClosePending.mk.inj (Option.some.inj (InHand.mk.inj (LinkState.command.inj hk)).2.2)
      exact ⟨l, hl, hs, hp⟩
    · rw [link_setLink_of_ne _ _ hq] at hw
      exact h q j hw
  · exact h

theorem closeLaw_move {g : Stage} {s t : State} (hm : Move g s t) (h : CloseLaw s) : CloseLaw t := by
  cases hm with
  | aside hk => exact h.of_keeps hk
  | clock hk => exact h.of_keeps hk
  | link p u hu =>
    refine h.of_stays fun q i hw => ⟨?_, .of_lease rfl⟩
    by_cases hq : q = p
    · subst hq
      rw [link_setLink_self] at hw
      obtain ⟨tag, r, n, hk⟩ := hw
      exact ⟨tag, r, n, (hu.2 tag r _ hk).symm.trans hk⟩
    · rwa [link_setLink_of_ne _ _ hq] at hw
  | quota => exact h
  | directory hk _ he => exact h.of_same (.of_keeps hk) fun i => closingStays_edited (he i)
  | reshape i l c hl hs =>
    refine h.of_same (fun _ => rfl) fun j => ?_
    by_cases hj : j = i
    · subst hj
      exact fun k hk hc => by obtain rfl := Option.some.inj (hl.symm.trans hk); rw [hs] at hc; cases hc
    · exact .of_lease (lease_setLease_of_ne s _ hj)
  | drain i l hl => exact h.endDrain hl rfl rfl 0x00
  | holdClose p i n l hl hs hp => exact h.holdClose n hl hs hp
  | openGrant p c i ho =>
    refine h.grantLease (freeEntry_free (openEntry_some ho).2) (fun _ => rfl) fun j hj => ?_
    rw [State.lease, (grantLease_entry i p c s).2 j hj]
    rfl
  | enqueue p k => exact h.of_same (sameCommands_setTicket s p k _) fun i => .of_lease rfl
  | scan =>
    refine h.of_same (.of_link (scan_link s) fun _ => rfl) fun i l hl hs => ?_
    exact ⟨l, by rw [State.lease, scan_entry hl]; exact hl, hs, rfl⟩
  | refuse f r =>
    exact h.of_same (.of_link (link_refuseWaiters f r s) fun _ => rfl) fun i =>
      .of_lease ((refuseWaiters_keeps f r s).lease i)
  | leave p k x => exact h.of_same (sameCommands_setTicket (dropWaiter p k s) p k x) fun i => .of_lease rfl
  | freeTicket p k => exact h.of_same (sameCommands_setTicket s p k _) fun i => .of_lease rfl
  | waitTick => exact h
  | clearPort p =>
    refine h.of_stays fun q i hw => ⟨?_, .of_lease rfl⟩
    by_cases hq : q = p
    · subst hq
      rw [link_setLink_self] at hw
      obtain ⟨_, _, _, hk⟩ := hw
      cases hk
    · rwa [link_setLink_of_ne _ _ hq] at hw
  | arbiter hk => exact h.of_keeps hk
  | rise p => exact h.of_keeps ((keeps_setRequester s p _).trans (arbitrate_keeps _))
  | wait p => exact h
  | fall p r => exact h.of_keeps (loseGrant_keeps p r s)
  | unstall => exact h
  | stall => exact h
  | post w => exact h.countAdmission (.of_keeps (admitWrite_keeps w s)) fun _ => rfl
  | admitStalled =>
    unfold admitStalled
    split
    · exact h
    · next w _ =>
      split
      · have hunstalled : CloseLaw { s with stalled := none } := h
        exact hunstalled.countAdmission (.of_keeps (admitWrite_keeps w _)) fun _ => rfl
      · exact h
  | takeRead x =>
    have hk := countAdmission_keeps x.handle.index s
    exact h.countAdmission (fun p => congrArg LinkUnit.link (hk.link p)) fun _ => rfl
  | start => exact h.of_keeps (startNext_keeps s)
  | phase => exact h
  | capture x w => exact h.of_keeps (capture_keeps x w s)
  | finishWrite w rest lost e =>
    have hleft : CloseLaw (s.withoutWrite rest e) := h
    exact hleft.finishAccess w.handle lost
  | finishRead x late words e =>
    have hleft : CloseLaw (s.withoutRead e) := h
    have hreturned := (hleft.finishAccess x.handle false).of_same (sameCommands_returnRead x late words _)
      fun i => .of_lease ((returnRead_keeps _ _ _ _).lease i)
    exact hreturned.of_keeps (readEnded_keeps _)
  | health v r => exact h
  | lose v f => exact h.loseTarget v f
  | probeReady v hu w => 
    exact h.of_same (fun p => congrArg LinkUnit.link (hu.keeps.link p)) fun i => .of_lease (hu.keeps.lease i)
  | probeLost v f hu => exact (h.of_keeps hu.keeps).loseTarget v f
  | configure v r o =>
    have hlink := link_refuseWaiters (fun w => w.claim.target == v) .targetDown (s.setTarget v r)
    exact h.of_same (t := s.reconfigured v r o) (.of_link (f := fun p => { s.link p with
      tickets := ((s.reconfigured v r o).link p).tickets }) hlink fun _ => rfl) fun i =>
        .of_lease (lease_reconfigured s v r o i)

/-! ### The law of the engine (R130, R134) -/

/-- R130: the engine holds nothing. -/
def Empty (s : State) : Prop := s.queue = [] ∧ s.read = none ∧ ∀ t, s.probe t = none

theorem nextHolding_eq_none_iff {s : State} : s.nextHolding = none ↔ Empty s := by
  unfold State.nextHolding Empty
  split
  · next hq => simp [hq]
  · next hq =>
    split
    · next hx => simp [hx]
    · next hx => simp [hq, hx, mem_allTargets]

theorem holds_of_nextHolding {s : State} {h : Holding} {t : TargetIx} (hn : s.nextHolding = some (h, t)) :
    s.holds h := by
  unfold State.nextHolding at hn
  split at hn
  · next hq => obtain ⟨rfl, -⟩ := Prod.mk.inj (Option.some.inj hn); simp [State.holds, hq]
  · split at hn
    · next hx => obtain ⟨rfl, -⟩ := Prod.mk.inj (Option.some.inj hn); simp [State.holds, hx]
    · obtain ⟨u, hu, heq⟩ := Option.map_eq_some_iff.mp hn
      obtain ⟨rfl, rfl⟩ := Prod.mk.inj heq
      have := List.find?_some hu
      exact Option.isSome_iff_ne_none.mp this

theorem startNext_of_current {s : State} {c : Current} (h : s.current = some c) : startNext s = s := by
  simp [startNext, h]

theorem startNext_of_empty {s : State} (h : Empty s) : startNext s = s := by
  unfold startNext
  rw [nextHolding_eq_none_iff.mpr h]
  split <;> rfl

/-- R134: the current access of target `t` as it starts. -/
def State.starting (s : State) (h : Holding) (t : TargetIx) : Current :=
  { holding := h
    taken := 0
    phase := .setup
    waitStates := (s.settings t).waitStates
    readyTimeout := (s.settings t).readyTimeout
    base := (s.settings t).span.base }

theorem startNext_of_nextHolding {s : State} {h : Holding} {t : TargetIx} (hc : s.current = none)
    (hn : s.nextHolding = some (h, t)) : startNext s = { s with current := some (s.starting h t) } := by
  unfold startNext
  rw [hc, hn]
  rfl

/-- R134: after the choice of the next access the engine is IDLE only when it holds nothing. -/
theorem empty_of_startNext {s : State} (h : (startNext s).current = none) : Empty (startNext s) := by
  cases hc : s.current with
  | some c => rw [startNext_of_current hc, hc] at h; cases h
  | none =>
    cases hn : s.nextHolding with
    | none =>
      have hempty := nextHolding_eq_none_iff.mp hn
      rwa [startNext_of_empty hempty]
    | some x => rw [startNext_of_nextHolding hc hn] at h; cases h

/-- R130: what is current is one of the engine's holdings. -/
def CurrentHeld (s : State) : Prop := ∀ c, s.current = some c → s.holds c.holding

theorem engineLaw_iff {s : State} : EngineLaw s ↔ (s.current = none → Empty s) ∧ CurrentHeld s := Iff.rfl

/-- Nothing that the engine holds is lost. -/
def HoldingsStay (s t : State) : Prop :=
  (s.queue ≠ [] → t.queue ≠ []) ∧ (s.read ≠ none → t.read ≠ none) ∧ ∀ v, s.probe v ≠ none → t.probe v ≠ none

theorem HoldingsStay.holds {s t : State} (hs : HoldingsStay s t) {x : Holding} (h : s.holds x) : t.holds x := by
  obtain ⟨hqueue, hread, hprobe⟩ := hs
  cases x with
  | write => exact hqueue h
  | read => exact hread h
  | probe v => exact hprobe v h

theorem CurrentHeld.of_stay {s t : State} (h : CurrentHeld s) (hs : HoldingsStay s t)
    (hc : ∀ c', t.current = some c' → ∃ c, s.current = some c ∧ c'.holding = c.holding) : CurrentHeld t := by
  intro c' hc'
  obtain ⟨c, hsc, hh⟩ := hc c' hc'
  rw [hh]
  exact hs.holds (h c hsc)

theorem CurrentHeld.of_none {t : State} (h : t.current = none) : CurrentHeld t :=
  fun c hc => by rw [h] at hc; cases hc

/-- The engine holds what it held: only what a read has captured or whether it is delivered can change. -/
structure EngineStays (s t : State) : Prop where
  current : t.current = s.current ∨ ∃ c c', s.current = some c ∧ t.current = some c' ∧ c'.holding = c.holding
  queue : t.queue = s.queue
  read : t.read = none ↔ s.read = none
  probe : ∀ v, t.probe v = none ↔ s.probe v = none

theorem EngineStays.of_same {s t : State} (hc : t.current = s.current) (hq : t.queue = s.queue)
    (hr : t.read = s.read) (hp : t.probes = s.probes) : EngineStays s t :=
  ⟨.inl hc, hq, by rw [hr], fun v => by simp only [State.probe, hp]⟩

theorem EngineStays.refl (s : State) : EngineStays s s := .of_same rfl rfl rfl rfl

theorem EngineStays.of_keeps {may : List Part} {s t : State} (h : KeepsAllBut may s t)
    (hc : .current ∉ may := by decide) (hq : .queue ∉ may := by decide) (hr : .read ∉ may := by decide)
    (hp : .probes ∉ may := by decide) : EngineStays s t :=
  ⟨.inl (h.current hc), h.queue hq, by rw [h.read hr], fun v => by rw [h.probe v hp]⟩

theorem EngineStays.holdings {s t : State} (h : EngineStays s t) : HoldingsStay s t :=
  ⟨by rw [h.queue]; exact id, (not_congr h.read).mpr, fun v => (not_congr (h.probe v)).mpr⟩

theorem EngineStays.currentHeld {s t : State} (h : EngineStays s t) (hs : CurrentHeld s) : CurrentHeld t := by
  refine hs.of_stay h.holdings fun c' hc' => ?_
  rcases h.current with hc | ⟨c, d, hc, hd, hh⟩
  · exact ⟨c', hc ▸ hc', rfl⟩
  · obtain rfl := Option.some.inj (hd.symm.trans hc')
    exact ⟨c, hc, hh⟩

theorem EngineStays.empty {s t : State} (h : EngineStays s t) (hs : s.current = none → Empty s)
    (ht : t.current = none) : Empty t := by
  rcases h.current with hc | ⟨c, d, hc, hd, hh⟩
  · obtain ⟨hq, hr, hp⟩ := hs (hc ▸ ht)
    exact ⟨h.queue.trans hq, h.read.mpr hr, fun v => (h.probe v).mpr (hp v)⟩
  · rw [hd] at ht; cases ht

theorem engineStays_capture (x : Holding) (w : Word) (s : State) : EngineStays s (capture x w s) := by
  unfold capture
  split
  · exact .refl s
  · split
    · next y hy => exact ⟨.inl rfl, rfl, by simp [hy], fun _ => Iff.rfl⟩
    · exact .refl s
  · next u =>
    split
    · next y hy =>
      refine ⟨.inl rfl, rfl, Iff.rfl, fun v => ?_⟩
      by_cases hv : v = u
      · subst hv; simp [hy]
      · simp [hv]
    · exact .refl s

theorem CurrentHeld.startNext {s : State} (h : CurrentHeld s) : CurrentHeld (startNext s) := by
  cases hc : s.current with
  | some c => rwa [startNext_of_current hc]
  | none =>
    cases hn : s.nextHolding with
    | none => rwa [startNext_of_empty (nextHolding_eq_none_iff.mp hn)]
    | some x =>
      obtain ⟨y, t⟩ := x
      rw [startNext_of_nextHolding hc hn]
      intro c hc
      obtain rfl := Option.some.inj hc
      have hstay : HoldingsStay s { s with current := some (s.starting y t) } := ⟨id, id, fun _ => id⟩
      exact hstay.holds (holds_of_nextHolding hn)

theorem holdingsStay_admitWrite (w : PostedWrite) (s : State) : HoldingsStay s (admitWrite w s) := by
  have hk := admitWrite_keeps w s
  refine ⟨fun _ => ?_, by rw [hk.read]; exact id, fun v => by rw [hk.probe v]; exact id⟩
  simp [admitWrite, answerBus]

theorem CurrentHeld.admitWrite {s : State} (h : CurrentHeld s) (w : PostedWrite) :
    CurrentHeld (admitWrite w s) :=
  h.of_stay (holdingsStay_admitWrite w s) fun c hc => ⟨c, (admitWrite_keeps w s).current ▸ hc, rfl⟩

theorem CurrentHeld.admitStalled {s : State} (h : CurrentHeld s) : CurrentHeld (admitStalled s) := by
  unfold Machine.admitStalled
  split
  · exact h
  · next w _ =>
    split
    · have hunstalled : CurrentHeld { s with stalled := none } := h
      exact hunstalled.admitWrite w
    · exact h

theorem CurrentHeld.placeProbe {s : State} (h : CurrentHeld s) (v : TargetIx) (r : TargetRecord)
    {o : Option Probe} (ho : o.isSome = true) : CurrentHeld (s.reconfigured v r o) := by
  have hk := reconfigured_keeps s v r o
  refine h.of_stay ⟨by rw [hk.queue]; exact id, by rw [hk.read]; exact id, fun u hu => ?_⟩ fun c hc =>
    ⟨c, hk.current ▸ hc, rfl⟩
  by_cases huv : u = v
  · subst huv
    rw [probe_reconfigured_self]
    exact Option.isSome_iff_ne_none.mp ho
  · rwa [probe_reconfigured_of_ne r o huv]

theorem CurrentHeld.takeRead {s : State} (h : CurrentHeld s) (x : PendingRead) :
    CurrentHeld { countAdmission x.handle.index s with read := some x } := by
  have hk := countAdmission_keeps x.handle.index s
  refine h.of_stay ⟨fun hq => hk.queue.symm ▸ hq, fun _ => by simp, fun v hv => ?_⟩ fun c hc =>
    ⟨c, hk.current ▸ hc, rfl⟩
  exact (hk.probe v).symm ▸ hv

theorem queue_admitWrite (w : PostedWrite) (s : State) : (admitWrite w s).queue = s.queue ++ [w] :=
  congrArg (· ++ [w]) (countAdmission_keeps w.handle.index s).queue

/-- R122, R131: the stalled write takes a free place only. -/
theorem length_queue_admitStalled {s : State} (h : s.queue.length ≤ Config.queueDepth) :
    (admitStalled s).queue.length ≤ Config.queueDepth := by
  unfold admitStalled
  split
  · exact h
  · split
    · next hq => rw [queue_admitWrite, List.length_append]; exact hq
    · exact h

theorem length_queue_loseTarget (v : TargetIx) (f : LastFault) (s : State) :
    (loseTarget v f s).queue.length ≤ s.queue.length := by
  rw [queue_loseTarget]
  exact List.length_filter_le _ _

/-- R130, R131: a move leaves the engine what it holds, or is one of the engine's stage, which leaves current one of
its holdings. -/
theorem Move.engine_cases {g : Stage} {s t : State} (hm : Move g s t) :
    EngineStays s t ∨ (g = .engine ∧ (CurrentHeld s → CurrentHeld t) ∧
      (s.queue.length ≤ Config.queueDepth → t.queue.length ≤ Config.queueDepth)) := by
  cases hm with
  | aside hk => exact .inl (.of_keeps hk)
  | clock hk => exact .inl (.of_keeps hk)
  | link p u => exact .inl (.of_keeps (keeps_setLink s p u))
  | quota => exact .inl (.of_keeps (keeps_quotas s _))
  | directory hk => exact .inl (.of_keeps hk)
  | reshape i l => exact .inl (.of_keeps (keeps_setLease s i _))
  | drain i l => exact .inl (.of_keeps (endDrain_keeps i l _ s))
  | holdClose p i n => exact .inl (.of_keeps (holdClose_keeps p i n s))
  | openGrant p c i => exact .inl (.of_keeps (grantLease_keeps i p c s))
  | enqueue => exact .inl (.of_same rfl rfl rfl rfl)
  | scan => exact .inl (.of_keeps (scan_keeps s))
  | refuse f r => exact .inl (.of_keeps (refuseWaiters_keeps f r s))
  | leave => exact .inl (.of_same rfl rfl rfl rfl)
  | freeTicket => exact .inl (.of_same rfl rfl rfl rfl)
  | waitTick => exact .inl (.of_same rfl rfl rfl rfl)
  | clearPort => exact .inl (.of_same rfl rfl rfl rfl)
  | arbiter hk => exact .inl (.of_keeps hk)
  | rise p => exact .inl (.of_keeps ((keeps_setRequester s p _).trans (arbitrate_keeps _)))
  | wait => exact .inl (.of_same rfl rfl rfl rfl)
  | fall p r =>
    have hk := loseGrant_keeps p r s
    have hread : (loseGrant p r s).read = (grantLost p r s).read := (arbitrate_keeps _).read
    exact .inl ⟨.inl hk.current, hk.queue, by rw [hread, read_grantLost, Option.map_eq_none_iff],
      fun v => by rw [hk.probe v]⟩
  | unstall => exact .inl (.of_same rfl rfl rfl rfl)
  | stall => exact .inl (.of_same rfl rfl rfl rfl)
  | post w _ hq =>
    refine .inr ⟨rfl, fun h => h.admitWrite w, fun _ => ?_⟩
    rw [queue_admitWrite, List.length_append]
    exact hq
  | admitStalled => exact .inr ⟨rfl, fun h => h.admitStalled, length_queue_admitStalled⟩
  | takeRead x =>
    have hqueue := (countAdmission_keeps x.handle.index s).queue
    exact .inr ⟨rfl, fun h => h.takeRead x, fun h => by rw [hqueue]; exact h⟩
  | start => exact .inr ⟨rfl, fun h => h.startNext, fun h => by rw [(startNext_keeps s).queue]; exact h⟩
  | phase c c' hc hh => exact .inl ⟨.inr ⟨c, c', hc, rfl, hh⟩, rfl, Iff.rfl, fun _ => Iff.rfl⟩
  | capture x w => exact .inl (engineStays_capture x w s)
  | finishWrite w rest lost e hq =>
    have hk := finishAccess_keeps w.handle lost (s.withoutWrite rest e)
    refine .inr ⟨rfl, fun _ => .of_none hk.current, fun h => ?_⟩
    have hrest : (s.withoutWrite rest e).queue = rest := rfl
    rw [hq, List.length_cons] at h
    exact (congrArg List.length (hk.queue.trans hrest)).trans_le (by omega)
  | finishRead x late words e =>
    refine .inr ⟨rfl, fun _ => .of_none ?_, fun h => (finishRead_keeps x late words e s).queue.symm ▸ h⟩
    rw [(readEnded_keeps _).current, (returnRead_keeps _ _ _ _).current]
    exact (finishAccess_keeps _ _ (s.withoutRead e)).current
  | health t r => exact .inl (.of_keeps (keeps_setTarget s t r))
  | lose v f hin hc =>
    exact .inr ⟨rfl, fun _ => .of_none ((loseTarget_keeps v f s).current.trans hc),
      (length_queue_loseTarget v f s).trans⟩
  | probeReady v hu w => exact .inr ⟨rfl, fun _ => .of_none hu.current, fun h => hu.keeps.queue.symm ▸ h⟩
  | @probeLost _ u v f hu =>
    exact .inr ⟨rfl, fun _ => .of_none ((loseTarget_keeps v f u).current.trans hu.current),
      fun h => (length_queue_loseTarget v f u).trans (hu.keeps.queue.symm ▸ h)⟩
  | configure v r o hb hr ho =>
    rcases ho with ⟨rfl, -⟩ | ⟨rfl, ho, -⟩
    · have hk := reconfigured_keeps s v r (s.probe v)
      refine .inl ⟨.inl hk.current, hk.queue, by rw [← State.reconfigured, hk.read], fun u => ?_⟩
      rw [← State.reconfigured]
      by_cases hu : u = v
      · subst hu; rw [probe_reconfigured_self]
      · rw [probe_reconfigured_of_ne r _ hu]
    · exact .inr ⟨rfl, fun h => h.placeProbe v r ho, fun h => (reconfigured_keeps s v r o).queue.symm ▸ h⟩

theorem currentHeld_move {g : Stage} {s t : State} (hm : Move g s t) (h : CurrentHeld s) : CurrentHeld t := by
  rcases hm.engine_cases with hs | ⟨-, hc, -⟩
  · exact hs.currentHeld h
  · exact hc h

/-- R130: the engine is IDLE only when it holds nothing. -/
def IdleEmpty (s : State) : Prop := s.current = none → Empty s

theorem idleEmpty_moves {g : Stage} (hg : g ≠ .engine) {s t : State} (hm : Moves g s t) (h : IdleEmpty s) :
    IdleEmpty t :=
  hm.keeps (fun _ _ hm hs => (hm.engine_cases.resolve_right fun e => hg e.1).empty hs) h

theorem idleEmpty_stepped {s t : State} (hm : Stepped s t) (h : IdleEmpty s) : IdleEmpty t := by
  obtain ⟨u, hbefore, hafter | ⟨v, w, hv, ⟨x, -, rfl⟩, ht⟩⟩ := hm
  · exact idleEmpty_moves (by simp) hafter (idleEmpty_moves (by simp) hbefore h)
  · exact idleEmpty_moves (by simp) ht fun hc => empty_of_startNext hc

theorem engineLaw_inReset : EngineLaw State.inReset := by
  have hempty : Empty State.inReset := by unfold Empty; decide
  exact ⟨fun _ => hempty, nofun⟩

theorem closeLaw_inReset : CloseLaw State.inReset := by
  have hidle : ∀ p, (State.inReset.link p).link = .idle := by decide
  exact fun p tag r c h => nomatch (hidle p).symm.trans h

theorem engineLaw_kept : KeptByStep EngineLaw := by
  intro s t h hstep
  have hs : ∀ rest, EngineLaw (s.withPending rest) := fun _ => h
  obtain ⟨rest, hstepped | ⟨p, -, ho⟩ | ⟨-, rfl⟩⟩ := step_stepped hstep
  · exact ⟨idleEmpty_stepped hstepped (hs rest).1,
      hstepped.keeps (fun _ _ _ hm => currentHeld_move hm) (hs rest).2⟩
  · have hmoves := moves_execOpen ho
    exact ⟨idleEmpty_moves (by simp) hmoves (hs rest).1,
      hmoves.keeps (fun _ _ hm => currentHeld_move hm) (hs rest).2⟩
  · exact engineLaw_inReset

theorem closeLaw_kept : KeptByStep CloseLaw :=
  keptByStep_of_moves (fun _ _ => closeLaw_inReset) (fun _ _ h => h) fun _ _ _ hm => closeLaw_move hm

/-- Settles O13: every change of what the engine holds ends in the choice of the next access, and every end of
a drain answers the CLOSE that waits on it. -/
theorem engineAndCloseLawsAreKept : Obligations.EngineAndCloseLawsAreKept := ⟨engineLaw_kept, closeLaw_kept⟩

end Sys2Proof.Machine
end

section
/-! The sizes of the lists and the ranges of the fields. -/

namespace Sys2Proof.Machine

/-! ### The settings of the arbiter and the divider -/

/-- R110, R111: the priority level, the hold limit, the grace and the line of every port are the same. -/
def SameSettings (s t : State) : Prop := ∀ p, (t.requesting p).level = (s.requesting p).level ∧
  (t.requesting p).hold = (s.requesting p).hold ∧ (t.requesting p).grace = (s.requesting p).grace ∧
  (t.requesting p).trq = (s.requesting p).trq

theorem SameSettings.refl (s : State) : SameSettings s s := fun _ => ⟨rfl, rfl, rfl, rfl⟩

theorem SameSettings.trans {s t u : State} (h : SameSettings s t) (h' : SameSettings t u) :
    SameSettings s u := fun p => by
  obtain ⟨h1, h2, h3, h4⟩ := h p
  obtain ⟨k1, k2, k3, k4⟩ := h' p
  exact ⟨k1.trans h1, k2.trans h2, k3.trans h3, k4.trans h4⟩

theorem SameSettings.of_ports {s t : State} (h : t.arb.ports = s.arb.ports) : SameSettings s t := fun p => by
  simp [State.requesting, h]

theorem SameSettings.of_keeps {may : List Part} {s t : State} (h : KeepsAllBut may s t)
    (ha : .arbiter ∉ may := by decide) : SameSettings s t := .of_ports (by rw [h.arb ha])

theorem sameSettings_setRequester (s : State) (p : Port) (r : Requester) :
    SameSettings s (s.setRequester p r) := fun q => by
  by_cases h : q = p
  · subst h; simp [State.setRequester]
  · simp [State.setRequester, h]

theorem sameSettings_grantBus (p : Port) (s : State) : SameSettings s (grantBus p s) :=
  (sameSettings_setRequester s p .owner).trans (.of_ports rfl)

theorem sameSettings_arbitrate (s : State) : SameSettings s (arbitrate s) := by
  rcases arbitrate_cases s with e | ⟨p, -, -, -, e⟩
  · rw [e]; exact .refl s
  · rw [e]; exact sameSettings_grantBus p s

theorem sameSettings_grantLost (p : Port) (r : Requester) (s : State) : SameSettings s (grantLost p r s) :=
  ((sameSettings_setRequester s p r).trans (.of_keeps (discardRead_keeps p _))).trans (.of_ports rfl)

theorem sameSettings_loseGrant (p : Port) (r : Requester) (s : State) : SameSettings s (loseGrant p r s) :=
  (sameSettings_grantLost p r s).trans (sameSettings_arbitrate _)

theorem sameSettings_readEnded (s : State) : SameSettings s (readEnded s) := by
  have h : SameSettings s { s with arb := { s.arb with bus := .free } } := .of_ports rfl
  unfold readEnded
  split
  · exact h.trans (sameSettings_arbitrate _)
  · exact .refl s

theorem sameSettings_loseTarget (v : TargetIx) (f : LastFault) (s : State) :
    SameSettings s (loseTarget v f s) := by
  have harb := arb_loseTarget v f s
  split at harb
  · exact (sameSettings_readEnded s).trans (.of_ports (by rw [harb]))
  · exact .of_ports (by rw [harb])

theorem SameSettings.inRange {s t : State} (h : SameSettings s t) (p : Port) (hp : (s.requesting p).InRange) :
    (t.requesting p).InRange := by
  obtain ⟨-, hhold, hgrace, -⟩ := h p
  unfold Requesting.InRange
  rw [hhold, hgrace]
  exact hp

/-- A move keeps the settings of the arbiter and of the divider in their ranges. -/
def SettingsStay (s t : State) : Prop :=
  (∀ p, (s.requesting p).InRange → (t.requesting p).InRange) ∧ (s.clock.InRange → t.clock.InRange)

theorem SettingsStay.of_same {s t : State} (h : SameSettings s t) (hc : t.clock = s.clock) :
    SettingsStay s t := ⟨fun p => h.inRange p, by rw [hc]; exact id⟩

theorem SettingsStay.of_keeps {may : List Part} {s t : State} (h : KeepsAllBut may s t)
    (ha : .arbiter ∉ may := by decide) (hc : .clock ∉ may := by decide) : SettingsStay s t :=
  .of_same (.of_keeps h ha) (h.clock hc)

theorem SettingsStay.refl (s : State) : SettingsStay s s := .of_same (.refl s) rfl

theorem Move.settingsStay {g : Stage} {s t : State} (hm : Move g s t) : SettingsStay s t := by
  have hsame : t.arb = s.arb → t.clock = s.clock → SettingsStay s t :=
    fun ha hc => .of_same (.of_ports (by rw [ha])) hc
  cases hm with
  | aside hk => exact .of_keeps hk
  | clock hk h => exact ⟨fun p => (SameSettings.of_keeps hk).inRange p, h⟩
  | link => exact hsame rfl rfl
  | quota => exact hsame rfl rfl
  | directory hk => exact .of_keeps hk
  | reshape => exact hsame rfl rfl
  | drain i l => exact .of_keeps (endDrain_keeps i l _ s)
  | holdClose p i n => exact .of_keeps (holdClose_keeps p i n s)
  | openGrant => exact hsame rfl rfl
  | enqueue => exact hsame rfl rfl
  | scan => exact .of_keeps (scan_keeps s)
  | refuse f r => exact .of_keeps (refuseWaiters_keeps f r s)
  | leave => exact hsame rfl rfl
  | freeTicket => exact hsame rfl rfl
  | waitTick => exact hsame rfl rfl
  | clearPort => exact hsame rfl rfl
  | arbiter hk _ _ _ hset => exact ⟨hset, by rw [hk.clock]; exact id⟩
  | rise p =>
    exact .of_same ((sameSettings_setRequester s p _).trans (sameSettings_arbitrate _))
      ((keeps_setRequester s p _).trans (arbitrate_keeps _)).clock
  | wait p => exact .of_same (sameSettings_setRequester s p _) rfl
  | fall p r => exact .of_same (sameSettings_loseGrant p r s) (loseGrant_keeps p r s).clock
  | unstall => exact hsame rfl rfl
  | stall => exact hsame rfl rfl
  | post w => exact .of_keeps (admitWrite_keeps w s)
  | admitStalled => exact .of_keeps (admitStalled_keeps s)
  | takeRead x =>
    have hk := countAdmission_keeps x.handle.index s
    exact hsame hk.arb hk.clock
  | start => exact .of_keeps (startNext_keeps s)
  | phase => exact hsame rfl rfl
  | capture x w => exact .of_keeps (capture_keeps x w s)
  | finishWrite w rest lost e =>
    have hk := finishAccess_keeps w.handle lost (s.withoutWrite rest e)
    exact hsame hk.arb hk.clock
  | finishRead x late words e =>
    have hreturned : SameSettings s (returnRead x late words (finishAccess x.handle false (s.withoutRead e)).1) :=
      .of_ports (by rw [(returnRead_keeps _ _ _ _).arb, (finishAccess_keeps _ _ _).arb]; rfl)
    exact .of_same (hreturned.trans (sameSettings_readEnded _)) (finishRead_keeps x late words e s).clock
  | health => exact hsame rfl rfl
  | lose v f => exact .of_same (sameSettings_loseTarget v f s) (loseTarget_keeps v f s).clock
  | probeReady v hu w => exact hsame hu.keeps.arb hu.keeps.clock
  | @probeLost _ u v f hu =>
    exact .of_same ((SameSettings.of_keeps hu.keeps).trans (sameSettings_loseTarget v f u))
      ((loseTarget_keeps v f u).clock.trans hu.keeps.clock)
  | configure v r o => exact .of_keeps (reconfigured_keeps s v r o)

/-! ### The ranges of the other fields -/

theorem term_le {s : State} (h : ∀ t x, (s.target t).settings = some x → x.InRange) (t : TargetIx) :
    (s.settings t).term ≤ 65535 := by
  unfold State.settings
  cases hx : (s.target t).settings with
  | none => simp
  | some x =>
    obtain ⟨-, -, -, -, -, -, hterm, -⟩ := h t x hx
    exact hterm

theorem grantedLease_inRange {s : State} (h : ∀ t x, (s.target t).settings = some x → x.InRange) (p : Port)
    {c : Claim} (hc : c.window.InRange 256) : (grantedLease s p c).InRange :=
  ⟨by simp, by simp, hc, term_le h c.target⟩

theorem lease_inRange_move {g : Stage} {s t : State} (hm : Move g s t) (h : FieldsInRange s) {i : EntryIx}
    {m : Lease} (hl : t.lease i = some m) : m.InRange := by
  obtain ⟨hleases, hwaiters, hsettings, -⟩ := h
  rcases hm.directory_cases with hf | ⟨p, c, j, hj, -, -, hw, rfl⟩ | rfl | ⟨j, k, c, hk, -, -, hw, -, -, rfl⟩
  · obtain ⟨l, hl, hfollow⟩ := hf i m hl
    obtain ⟨hlow, hhigh, hwindow, hinterval⟩ := hleases i l hl
    obtain ⟨hlow, hhigh⟩ := hfollow.balance hlow hhigh
    refine ⟨hlow, hhigh, hfollow.claim ▸ hwindow, ?_⟩
    rcases hfollow.interval with hle | hle
    · exact hle.trans hinterval
    · exact hle.trans (term_le hsettings _)
  · obtain ⟨hself, hother⟩ := grantLease_entry j p c s
    by_cases hij : i = j
    · subst hij
      rw [State.lease, hself] at hl
      obtain rfl := Option.some.inj hl
      exact grantedLease_inRange hsettings p hw
    · rw [State.lease, hother i hij] at hl
      exact hleases i m hl
  · rcases lease_scan_cases hl with hl | ⟨-, w, hw, rfl, -⟩
    · exact hleases i m hl
    · exact grantedLease_inRange hsettings w.port (hwaiters w hw).1
  · by_cases hij : i = j
    · subst hij
      rw [lease_setLease_self] at hl
      obtain rfl := Option.some.inj hl
      obtain ⟨hlow, hhigh, -, hinterval⟩ := hleases i k hk
      exact ⟨hlow, hhigh, hw, hinterval⟩
    · rw [lease_setLease_of_ne s _ hij] at hl
      exact hleases i m hl

theorem waiter_inRange_move {g : Stage} {s t : State} (hm : Move g s t) (h : FieldsInRange s) {w : Waiter}
    (hw : w ∈ t.waitList) :
    w.claim.window.InRange 256 ∧ ∀ r, w.remaining = some r → 1 ≤ r ∧ r ≤ 65535 := by
  obtain ⟨-, hwaiters, -⟩ := h
  rcases hm.waitList_cases with ⟨-, hf, -⟩ | ⟨p, k, c, n, -, -, -, hc, hr, rfl⟩
  · obtain ⟨v, hv, hfollow⟩ := hf w hw
    obtain ⟨hwindow, hremaining⟩ := hwaiters v hv
    refine ⟨hfollow.claim ▸ hwindow, fun r hr => ?_⟩
    rcases hfollow.remaining with he | ⟨m, n, hm, hn, hlow, hhigh⟩
    · exact hremaining r (he ▸ hr)
    · obtain rfl := Option.some.inj (hn.symm.trans hr)
      exact ⟨hlow, hhigh.trans (hremaining m hm).2⟩
  · rcases List.mem_append.mp hw with hw | hw
    · exact hwaiters w hw
    · obtain rfl := List.mem_singleton.mp hw
      exact ⟨hc, hr⟩

theorem target_inRange_move {g : Stage} {s t : State} (hm : Move g s t) (h : FieldsInRange s) (v : TargetIx) :
    (∀ x, (t.target v).settings = some x → x.InRange) ∧ (t.target v).timeouts ≤ 2 := by
  obtain ⟨-, -, hsettings, htimeouts, -⟩ := h
  rcases hm.target_cases with hr | ⟨u, r, o, -, hr, -, rfl⟩
  · obtain ⟨hset, hn, -⟩ := hr v
    exact ⟨fun x hx => hsettings v x (hset ▸ hx), hn (htimeouts v)⟩
  · by_cases hv : v = u
    · subst hv
      rw [target_reconfigured_self]
      exact ⟨hr.inRange, hr.timeouts⟩
    · rw [target_reconfigured_of_ne r o hv]
      exact ⟨hsettings v, htimeouts v⟩

theorem fieldsInRange_move {g : Stage} {s t : State} (hm : Move g s t) (h : FieldsInRange s) :
    FieldsInRange t := by
  obtain ⟨-, -, -, -, hports, hk, hpending⟩ := id h
  obtain ⟨hset, hclock⟩ := hm.settingsStay
  obtain ⟨hk, hpending⟩ := hclock ⟨hk, hpending⟩
  exact ⟨fun i l hl => lease_inRange_move hm h hl, fun w hw => waiter_inRange_move hm h hw,
    fun v => (target_inRange_move hm h v).1, fun v => (target_inRange_move hm h v).2,
    fun p => hset p (hports p), hk, hpending⟩

theorem capacity_move {g : Stage} {s t : State} (hm : Move g s t) (h : Capacity s) : Capacity t := by
  obtain ⟨hqueue, hlist⟩ := h
  refine ⟨?_, ?_⟩
  · rcases hm.engine_cases with hs | ⟨-, -, hq⟩
    · rwa [hs.queue]
    · exact hq hqueue
  · rcases hm.waitList_cases with ⟨hle, -, -⟩ | ⟨p, k, c, r, -, hlt, -, -, -, rfl⟩
    · exact hle.trans hlist
    · simpa using hlt

theorem fieldsInRange_inReset : FieldsInRange State.inReset := by
  have hnone : ∀ t, (State.inReset.target t).settings = none := by decide
  refine ⟨fun i l hl => (nomatch (lease_inReset i).symm.trans hl), nofun,
    fun t x hx => (nomatch (hnone t).symm.trans hx), ?_, ?_, ?_, nofun⟩ <;> decide

theorem capacity_inReset : Capacity State.inReset := ⟨Nat.zero_le _, Nat.zero_le _⟩

/-- R12: an outstanding count counts accesses that the engine holds. -/
theorem tagged_le (s : State) (i : EntryIx) : s.tagged i ≤ s.queue.length + 1 := by
  unfold State.tagged
  have hcount := List.countP_le_length (p := fun w : PostedWrite => w.handle.index == i) (l := s.queue)
  split <;> omega

/-- Settles O7: every move of a step keeps the sizes and the ranges, and the engine holds no more than the
writes of its queue and one read. -/
theorem rangesAreKept : Obligations.RangesAreKept := by
  refine ⟨keptByStep_of_moves (fun n rest => ?_) (fun _ _ h => h) fun _ _ _ hm h =>
    ⟨capacity_move hm h.1, fieldsInRange_move hm h.2⟩, fun s hc ho i l hl => ?_⟩
  · exact ⟨capacity_inReset, fieldsInRange_inReset⟩
  · have hcount := (ho.2.1 i l hl).1
    have htagged := tagged_le s i
    have hqueue : s.queue.length ≤ 4 := hc.1
    omega

end Sys2Proof.Machine
end

section
/-! The checks of an access, and the law of the outstanding counts (R12, R77, R121). -/

namespace Sys2Proof.Machine

/-! ### What the checks of an access find -/

/-- R118: only a HELD lease passes the last three checks, and a write only an EXCLUSIVE one. -/
theorem admission_eq_none_iff {l : Lease} {d : Dir} :
    l.admission d = none ↔ l.state = .held ∧ (d = .write → l.claim.cls = .exclusive) := by
  unfold Lease.admission
  split
  · next hs => cases l.claim.cls <;> cases d <;> simp [hs]
  · next hs => simp [hs]
  · next hheld _ => exact iff_of_false (by simp) fun h => hheld h.1

theorem selected_some {s : State} {p : Port} {page : Nat} {i : EntryIx} (h : s.selected p page = some i) :
    ∃ l, s.lease i = some l ∧ l.occupying = true ∧ l.holder = p ∧ l.claim.window.hasPage page = true := by
  have hcovers := List.find?_some h
  obtain ⟨l, hl, hcond⟩ := (Option.any_eq_true _ _).mp hcovers
  simp only [Bool.and_eq_true, beq_iff_eq] at hcond
  exact ⟨l, hl, hcond.1.1, hcond.1.2, hcond.2⟩

/-- R116: the checks pass an access of the owner under its selected entry, at the target of its page. -/
theorem checkAccess_eq_pass_iff {s : State} {p : Port} {page : Nat} {d : Dir} {h : Handle} {t : TargetIx} :
    s.checkAccess p page d = .pass h t ↔ ∃ i l, AdmissionPasses s p page d i l t ∧
      h = { index := i, generation := (s.entry i).generation } := by
  unfold State.checkAccess
  constructor
  · intro hpass
    split at hpass
    · cases hpass
    · next u hu =>
      split at hpass
      · next hin =>
        split at hpass
        · cases hpass
        · next i hi =>
          dsimp only at hpass
          split at hpass
          · cases hpass
          · next l hl =>
            split at hpass
            · cases hpass
            · next hnone =>
              obtain ⟨rfl, rfl⟩ := Verdict.pass.inj hpass
              obtain ⟨hheld, hcls⟩ := admission_eq_none_iff.mp hnone
              exact ⟨i, l, ⟨hu, hin, hi, hl, hheld, hcls⟩, rfl⟩
      · cases hpass
  · rintro ⟨i, l, ⟨hu, hin, hi, hl, hheld, hcls⟩, rfl⟩
    simp only [hu, hin, if_true, hi, hl, admission_eq_none_iff.mpr ⟨hheld, hcls⟩]

theorem targetOfPage_some {s : State} {page : Nat} {t : TargetIx} (h : s.targetOfPage page = some t) :
    ∃ x, s.span t = some x ∧ x.hasPage page = true := by
  have hfound := List.find?_some h
  exact (Option.any_eq_true _ _).mp hfound

/-- R149: a page lies in the span of one target of the map only. -/
theorem MapLaw.target_unique {s : State} (h : MapLaw s) {t u : TargetIx} {a b : Window} {page : Nat}
    (ha : s.span t = some a) (hb : s.span u = some b) (hpa : a.hasPage page = true)
    (hpb : b.hasPage page = true) : t = u := by
  by_contra hne
  have hno := h.2 t u a b hne ha hb
  simp only [Window.hasPage, Window.overlaps, decide_eq_true_eq, decide_eq_false_iff_not] at hpa hpb hno
  omega

theorem hasPage_of_inside {w x : Window} {page : Nat} (h : w.inside x = true) (hw : w.hasPage page = true) :
    x.hasPage page = true := by
  simp only [Window.hasPage, Window.inside, decide_eq_true_eq] at h hw ⊢
  omega

/-- R116, R4, R149: an access that passes is made under a HELD entry of the owner, on the entry's target. -/
theorem Passes.held {s : State} {p : Port} {d : Dir} {h : Handle} {t : TargetIx} (hp : Passes s p d h t)
    (htarget : TargetLaw s) (hmap : MapLaw s) :
    ∃ l, s.entry h.index = { generation := h.generation, lease := some l } ∧ l.claim.target = t ∧
      l.state = .held ∧ l.holder = p := by
  obtain ⟨page, hpass⟩ := hp.passes
  obtain ⟨i, l, ⟨hpage, hin, hsel, hl, hheld, -⟩, rfl⟩ := checkAccess_eq_pass_iff.mp hpass
  obtain ⟨m, hm, hocc, hholder, hwindow⟩ := selected_some hsel
  obtain rfl := Option.some.inj (hl.symm.trans hm)
  obtain ⟨-, x, hx, hinside⟩ := htarget.1 i l hl hocc
  obtain ⟨y, hy, hypage⟩ := targetOfPage_some hpage
  refine ⟨l, ?_, hmap.target_unique hx hy (hasPage_of_inside hinside hwindow) hypage, hheld, hholder⟩
  rw [← hl]
  rfl

/-! ### The law, in parts -/

/-- The handle and the target of an access. -/
abbrev PostedWrite.tag (w : PostedWrite) : Handle × TargetIx := (w.handle, w.target)
abbrev PendingRead.tag (x : PendingRead) : Handle × TargetIx := (x.handle, x.target)

/-- The engine holds accesses with the same handles and targets. -/
def SameAccesses (s t : State) : Prop :=
  t.queue = s.queue ∧ t.read.map PendingRead.tag = s.read.map PendingRead.tag

/-- An access that the engine holds. -/
def State.engineHolds (s : State) (x : Handle × TargetIx) : Prop :=
  x ∈ s.queue.map PostedWrite.tag ∨ s.read.map PendingRead.tag = some x

theorem tagged_eq (s : State) (i : EntryIx) : s.tagged i =
    (s.queue.map PostedWrite.tag).countP (fun x => x.1.index == i) +
      if (s.read.map PendingRead.tag).any (fun x => x.1.index == i) then 1 else 0 := by
  unfold State.tagged
  rw [List.countP_map, Option.any_map]
  rfl

theorem tagged_pos_iff {s : State} {i : EntryIx} :
    0 < s.tagged i ↔ ∃ x, s.engineHolds x ∧ x.1.index = i := by
  rw [tagged_eq]
  unfold State.engineHolds
  constructor
  · intro hpos
    by_cases hread : (s.read.map PendingRead.tag).any (fun x => x.1.index == i) = true
    · obtain ⟨x, hx, hi⟩ := (Option.any_eq_true _ _).mp hread
      exact ⟨x, .inr hx, by simpa using hi⟩
    · rw [if_neg hread, Nat.add_zero] at hpos
      obtain ⟨x, hx, hi⟩ := List.countP_pos_iff.mp hpos
      exact ⟨x, .inl hx, by simpa using hi⟩
  · rintro ⟨x, hx | hx, rfl⟩
    · exact Nat.add_pos_left (List.countP_pos_iff.mpr ⟨x, hx, by simp⟩) _
    · rw [hx]
      simp

/-- Every access of the engine names the live grant of its entry. -/
def AllLive (s : State) : Prop := ∀ x, s.engineHolds x → HandleLive s x.1 x.2

/-- What the count of an entry's lease is. -/
def Counted (s : State) (i : EntryIx) : Prop :=
  (s.lease i = none → s.tagged i = 0) ∧ ∀ l, s.lease i = some l → l.outstanding = s.tagged i ∧
    (l.occupying = false → l.outstanding = 0) ∧ (l.draining = true → l.outstanding ≠ 0)

/-- R121: a stalled write stands under a HELD entry of its port. -/
def StalledHeld (s : State) (w : PostedWrite) : Prop := ∃ l,
  s.entry w.handle.index = { generation := w.handle.generation, lease := some l } ∧
    l.claim.target = w.target ∧ l.state = .held ∧ l.holder = w.port

theorem outstandingLaw_iff {s : State} : OutstandingLaw s ↔
    (∀ i, Counted s i) ∧ AllLive s ∧ ∀ w, s.stalled = some w → StalledHeld s w := by
  constructor
  · rintro ⟨hfree, hcount, hqueue, hread, hstalled⟩
    refine ⟨fun i => ⟨hfree i, hcount i⟩, ?_, fun w hw => ?_⟩
    · rintro x (hx | hx)
      · obtain ⟨w, hw, rfl⟩ := List.mem_map.mp hx
        exact hqueue w hw
      · obtain ⟨y, hy, rfl⟩ := Option.map_eq_some_iff.mp hx
        exact hread y hy
    · obtain ⟨⟨l, hl, ht⟩, m, hm, hheld, hp⟩ := hstalled w hw
      rw [State.lease, hl] at hm
      obtain rfl := Option.some.inj hm
      exact ⟨l, hl, ht, hheld, hp⟩
  · rintro ⟨hcount, hlive, hstalled⟩
    refine ⟨fun i => (hcount i).1, fun i => (hcount i).2, fun w hw => hlive _ (.inl (List.mem_map_of_mem hw)),
      fun x hx => hlive x.tag (.inr (by rw [hx]; rfl)), fun w hw => ?_⟩
    obtain ⟨l, hl, ht, hheld, hp⟩ := hstalled w hw
    exact ⟨⟨l, hl, ht⟩, l, by rw [State.lease, hl], hheld, hp⟩

theorem SameAccesses.tagged {s t : State} (h : SameAccesses s t) (i : EntryIx) : t.tagged i = s.tagged i := by
  rw [tagged_eq, tagged_eq, h.1, h.2]

theorem SameAccesses.engineHolds {s t : State} (h : SameAccesses s t) (x : Handle × TargetIx) :
    t.engineHolds x ↔ s.engineHolds x := by
  unfold State.engineHolds
  rw [h.1, h.2]

theorem SameAccesses.of_keeps {may : List Part} {s t : State} (h : KeepsAllBut may s t)
    (hq : .queue ∉ may := by decide) (hr : .read ∉ may := by decide) : SameAccesses s t :=
  ⟨h.queue hq, by rw [h.read hr]⟩

/-- What the law allows of an entry while the engine holds the same accesses. -/
inductive EntryGoesOn (s t : State) (i : EntryIx) : Prop where
  | same (h : t.entry i = s.entry i)
  | granted (m : Lease) (hs : s.lease i = none) (ht : t.lease i = some m) (hm : m.outstanding = 0)
      (hheld : m.state = .held)
  | freed (l : Lease) (hs : s.lease i = some l) (ht : t.lease i = none)
      (hl : l.outstanding = 0 ∨ l.occupying = false)
  | edited (l m : Lease) (hs : s.lease i = some l) (ht : t.lease i = some m)
      (hg : (t.entry i).generation = (s.entry i).generation) (hn : m.outstanding = l.outstanding)
      (htarget : m.claim.target = l.claim.target) (hholder : m.holder = l.holder)
      (htomb : m.occupying = false → l.occupying = false ∨ l.outstanding = 0)
      (hdrain : m.draining = true → l.draining = true ∨ l.outstanding ≠ 0)

theorem Counted.goesOn {s t : State} {i : EntryIx} (h : Counted s i) (he : EntryGoesOn s t i)
    (ht : t.tagged i = s.tagged i) : Counted t i := by
  obtain ⟨hfree, hcount⟩ := h
  unfold Counted
  rw [ht]
  cases he with
  | same he => rw [State.lease, he]; exact ⟨hfree, hcount⟩
  | granted m hs hm hzero hheld =>
    refine ⟨fun hno => (nomatch hno.symm.trans hm), fun l hl => ?_⟩
    obtain rfl := Option.some.inj (hm.symm.trans hl)
    exact ⟨hzero.trans (hfree hs).symm, fun _ => hzero, by simp [Lease.draining, hheld]⟩
  | freed l hs hnone hl =>
    refine ⟨fun _ => ?_, fun m hm => (nomatch hnone.symm.trans hm)⟩
    obtain ⟨hn, htomb, -⟩ := hcount l hs
    rcases hl with hl | hl
    · rw [← hn, hl]
    · rw [← hn, htomb hl]
  | edited l m hs hm _ hn _ _ htomb hdrain =>
    refine ⟨fun hno => (nomatch hno.symm.trans hm), fun k hk => ?_⟩
    obtain rfl := Option.some.inj (hm.symm.trans hk)
    obtain ⟨hcnt, hz, hd⟩ := hcount l hs
    rw [hn]
    exact ⟨hcnt, fun ho => (htomb ho).elim hz id, fun ho => (hdrain ho).elim hd id⟩

/-- An access of the engine keeps the grant that it names. -/
theorem handleLive_goesOn {s t : State} {h : Handle} {v : TargetIx} (hlive : HandleLive s h v)
    (hc : Counted s h.index) (hpos : 0 < s.tagged h.index) (he : EntryGoesOn s t h.index) :
    HandleLive t h v := by
  obtain ⟨l, hl, hv⟩ := hlive
  have hlease : s.lease h.index = some l := by rw [State.lease, hl]
  obtain ⟨hn, htomb, -⟩ := hc.2 l hlease
  cases he with
  | same he => exact ⟨l, he.trans hl, hv⟩
  | granted m hs => exact nomatch hs.symm.trans hlease
  | freed k hs _ hk =>
    obtain rfl := Option.some.inj (hs.symm.trans hlease)
    rcases hk with hk | hk
    · omega
    · have := htomb hk; omega
  | edited k m hs hm hg _ htarget =>
    obtain rfl := Option.some.inj (hs.symm.trans hlease)
    refine ⟨m, ?_, htarget.trans hv⟩
    have hgen : (t.entry h.index).generation = h.generation := by rw [hg, hl]
    rw [← hgen, ← hm]
    rfl

theorem AllLive.goesOn {s t : State} (h : AllLive s) (hc : ∀ i, Counted s i) (hsame : SameAccesses s t)
    (he : ∀ i, EntryGoesOn s t i) : AllLive t := by
  intro x hx
  have hx := (hsame.engineHolds x).mp hx
  exact handleLive_goesOn (h x hx) (hc _) (tagged_pos_iff.mpr ⟨x, hx, rfl⟩) (he _)

/-- The law goes on while the engine holds the same accesses and the entries go on. -/
theorem OutstandingLaw.goesOn {s t : State} (h : OutstandingLaw s) (hsame : SameAccesses s t)
    (he : ∀ i, EntryGoesOn s t i) (hst : ∀ w, t.stalled = some w → StalledHeld t w) : OutstandingLaw t := by
  obtain ⟨hcount, hlive, -⟩ := outstandingLaw_iff.mp h
  exact outstandingLaw_iff.mpr ⟨fun i => (hcount i).goesOn (he i) (hsame.tagged i),
    hlive.goesOn hcount hsame he, hst⟩

/-- The entries, the engine's accesses and the stalled write are the same. -/
theorem OutstandingLaw.of_same {s t : State} (h : OutstandingLaw s) (hsame : SameAccesses s t)
    (he : ∀ i, t.entry i = s.entry i) (hst : ∀ w, t.stalled = some w → s.stalled = some w) :
    OutstandingLaw t := by
  refine h.goesOn hsame (fun i => .same (he i)) fun w hw => ?_
  obtain ⟨l, hl, hrest⟩ := (outstandingLaw_iff.mp h).2.2 w (hst w hw)
  exact ⟨l, (he _).trans hl, hrest⟩

theorem OutstandingLaw.of_keeps {may : List Part} {s t : State} (h : OutstandingLaw s)
    (hk : KeepsAllBut may s t) (hd : .directory ∉ may := by decide) (hq : .queue ∉ may := by decide)
    (hr : .read ∉ may := by decide) (hs : .stalled ∉ may := by decide) : OutstandingLaw t :=
  h.of_same (.of_keeps hk hq hr) (fun i => hk.entry i hd) fun _ hw => hk.stalled hs ▸ hw

/-- The write that stands stalled keeps its entry as it is. -/
theorem StalledHeld.of_entry {s t : State} {w : PostedWrite} (h : StalledHeld s w)
    (he : t.entry w.handle.index = s.entry w.handle.index) : StalledHeld t w := by
  obtain ⟨l, hl, hrest⟩ := h
  exact ⟨l, he.trans hl, hrest⟩

end Sys2Proof.Machine
end

section
/-! The outstanding counts along the moves. -/

namespace Sys2Proof.Machine

/-- One if the access is tagged with the entry. -/
def tagCount (x : Handle × TargetIx) (i : EntryIx) : Nat := if x.1.index = i then 1 else 0

theorem lease_of_live {s : State} {h : Handle} {l : Lease}
    (hl : s.entry h.index = { generation := h.generation, lease := some l }) : s.lease h.index = some l := by
  rw [State.lease, hl]

theorem Lease.ended_state (lost : Bool) (l : Lease) : (l.ended lost).state = l.state := rfl

/-- R12, R77: an access has left the engine, and its lease is what the end of an access leaves of it. -/
theorem OutstandingLaw.finished {s t : State} {x : Handle × TargetIx} {lost : Bool} (h : OutstandingLaw s)
    (hx : s.engineHolds x) (htag : ∀ i, s.tagged i = t.tagged i + tagCount x i)
    (hsub : ∀ y, t.engineHolds y → s.engineHolds y)
    (hentry : ∀ i, t.entry i = if i = x.1.index then
      { s.entry i with lease := (s.lease i).bind fun l => (l.ended lost).afterEnd } else s.entry i)
    (hst : ∀ w, t.stalled = some w → s.stalled = some w) : OutstandingLaw t := by
  obtain ⟨hcount, hlive, hstalled⟩ := outstandingLaw_iff.mp h
  obtain ⟨l, hl, hv⟩ := hlive x hx
  have hlease := lease_of_live hl
  obtain ⟨hn, htomb, -⟩ := (hcount _).2 l hlease
  have hother : ∀ i, i ≠ x.1.index → t.entry i = s.entry i ∧ t.tagged i = s.tagged i := fun i hi => by
    refine ⟨by rw [hentry, if_neg hi], ?_⟩
    rw [htag, tagCount, if_neg (Ne.symm hi), Nat.add_zero]
  have hself : t.entry x.1.index = { generation := x.1.generation, lease := (l.ended lost).afterEnd } := by
    rw [hentry, if_pos rfl, hlease, hl]
    rfl
  have hleft : (l.ended lost).outstanding = t.tagged x.1.index := by
    have hone := htag x.1.index
    rw [tagCount, if_pos rfl] at hone
    have : (l.ended lost).outstanding = l.outstanding - 1 := rfl
    omega
  have hgoes : t.tagged x.1.index ≠ 0 ∨ l.state = .held →
      t.entry x.1.index = { generation := x.1.generation, lease := some (l.ended lost) } := fun hcond => by
    rw [hself, Lease.afterEnd_eq, if_neg]
    rintro ⟨hzero, hdraining⟩
    rcases hcond with hne | hheld
    · exact hne (hleft ▸ hzero)
    · simp [Lease.draining, Lease.ended_state, hheld] at hdraining
  refine outstandingLaw_iff.mpr ⟨fun i => ?_, fun y hy => ?_, fun w hw => ?_⟩
  · by_cases hi : i = x.1.index
    · subst hi
      have hmine : t.lease x.1.index = (l.ended lost).afterEnd := by rw [State.lease, hself]
      rw [Counted, hmine, Lease.afterEnd_eq]
      split
      · next hend =>
        have hzero := hleft.symm.trans hend.1
        refine ⟨fun _ => hzero, fun m hm => ?_⟩
        obtain ⟨hout, hdrain⟩ : m.outstanding = (l.ended lost).outstanding ∧ m.draining = false := by
          unfold Lease.drained at hm
          split at hm
          · cases hm
          · split at hm
            · cases hm
            · obtain rfl := Option.some.inj hm; exact ⟨rfl, rfl⟩
          · next hc hr =>
            have hdraining := hend.2
            unfold Lease.draining at hdraining
            split at hdraining
            · next hs => exact absurd hs hc
            · next hs => exact absurd hs (hr _ _)
            · cases hdraining
        exact ⟨hout.trans hleft, fun _ => hout.trans hend.1, by simp [hdrain]⟩
      · next hend =>
        refine ⟨nofun, fun m hm => ?_⟩
        obtain rfl := Option.some.inj hm
        refine ⟨hleft, fun ho => ?_, fun hd hzero => hend ⟨hzero, hd⟩⟩
        have hpos := htag x.1.index
        rw [tagCount, if_pos rfl] at hpos
        have := htomb ho
        omega
    · obtain ⟨he, ht⟩ := hother i hi
      exact (hcount i).goesOn (.same he) ht
  · obtain ⟨k, hk, hkv⟩ := hlive y (hsub y hy)
    by_cases hi : y.1.index = x.1.index
    · have hpos : 0 < t.tagged y.1.index := tagged_pos_iff.mpr ⟨y, hy, rfl⟩
      rw [hi] at hpos hk
      obtain ⟨hgen, hsome⟩ := Entry.mk.inj (hl.symm.trans hk)
      obtain rfl := Option.some.inj hsome
      refine ⟨l.ended lost, ?_, hkv⟩
      rw [hi, hgoes (.inl (by omega)), hgen]
    · exact ⟨k, (hother _ hi).1.trans hk, hkv⟩
  · obtain ⟨k, hk, hkv, hheld, hp⟩ := hstalled w (hst w hw)
    by_cases hi : w.handle.index = x.1.index
    · rw [hi] at hk
      obtain ⟨hgen, hsome⟩ := Entry.mk.inj (hl.symm.trans hk)
      obtain rfl := Option.some.inj hsome
      refine ⟨l.ended lost, ?_, hkv, hheld, hp⟩
      rw [hi, hgoes (.inr hheld), hgen]
    · exact ⟨k, (hother _ hi).1.trans hk, hkv, hheld, hp⟩

/-- R12, R119: an access has been admitted under a HELD entry. -/
theorem OutstandingLaw.admitted {s t : State} {x : Handle × TargetIx} (h : OutstandingLaw s)
    (hx : ∃ l, s.entry x.1.index = { generation := x.1.generation, lease := some l } ∧
      l.claim.target = x.2 ∧ l.state = .held)
    (htag : ∀ i, t.tagged i = s.tagged i + tagCount x i)
    (hsub : ∀ y, t.engineHolds y → s.engineHolds y ∨ y = x)
    (hentry : ∀ i, t.entry i = (countAdmission x.1.index s).entry i)
    (hst : ∀ w, t.stalled = some w → s.stalled = some w) : OutstandingLaw t := by
  obtain ⟨hcount, hlive, hstalled⟩ := outstandingLaw_iff.mp h
  obtain ⟨l, hl, hv, hheld⟩ := hx
  have hlease := lease_of_live hl
  have hother : ∀ i, i ≠ x.1.index → t.entry i = s.entry i ∧ t.tagged i = s.tagged i := fun i hi => by
    refine ⟨by rw [hentry, entry_countAdmission, if_neg hi], ?_⟩
    rw [htag, tagCount, if_neg (Ne.symm hi), Nat.add_zero]
  have hself : t.entry x.1.index =
      { generation := x.1.generation, lease := some { l with outstanding := l.outstanding + 1 } } := by
    rw [hentry, entry_countAdmission, if_pos rfl, hlease, hl]
    rfl
  have hliving : ∀ {g : Handle} {k : Lease}, g.index = x.1.index →
      s.entry g.index = { generation := g.generation, lease := some k } →
      t.entry g.index = { generation := g.generation, lease := some { k with outstanding := k.outstanding + 1 } } := by
    intro g k hi hk
    rw [hi] at hk ⊢
    obtain ⟨hgen, hsome⟩ := Entry.mk.inj (hl.symm.trans hk)
    obtain rfl := Option.some.inj hsome
    rw [hself, hgen]
  refine outstandingLaw_iff.mpr ⟨fun i => ?_, fun y hy => ?_, fun w hw => ?_⟩
  · by_cases hi : i = x.1.index
    · subst hi
      have hmine : t.lease x.1.index = some { l with outstanding := l.outstanding + 1 } := by
        rw [State.lease, hself]
      refine ⟨fun hno => (nomatch hno.symm.trans hmine), fun m hm => ?_⟩
      obtain rfl := Option.some.inj (hmine.symm.trans hm)
      refine ⟨?_, by simp [Lease.occupying, hheld], by simp [Lease.draining, hheld]⟩
      rw [htag, tagCount, if_pos rfl, ← ((hcount _).2 l hlease).1]
    · obtain ⟨he, ht⟩ := hother i hi
      exact (hcount i).goesOn (.same he) ht
  · rcases hsub y hy with hy | rfl
    · obtain ⟨k, hk, hkv⟩ := hlive y hy
      by_cases hi : y.1.index = x.1.index
      · exact ⟨_, hliving hi hk, hkv⟩
      · exact ⟨k, (hother _ hi).1.trans hk, hkv⟩
    · exact ⟨_, hself, hv⟩
  · obtain ⟨k, hk, hkv, hkheld, hp⟩ := hstalled w (hst w hw)
    by_cases hi : w.handle.index = x.1.index
    · exact ⟨_, hliving hi hk, hkv, hkheld, hp⟩
    · exact ⟨k, (hother _ hi).1.trans hk, hkv, hkheld, hp⟩

/-! ### The loss step -/

theorem Lease.settleLost_terms {l m : Lease} (h : l.settleLost = some m) :
    m.outstanding = 0 ∧ m.draining = false := by
  unfold Lease.settleLost at h
  split at h
  · obtain rfl := Option.some.inj h; exact ⟨rfl, rfl⟩
  · obtain rfl := Option.some.inj h; exact ⟨rfl, rfl⟩
  · cases h
  · next r b hs =>
    unfold Lease.drained at h
    simp only [hs] at h
    split at h
    · cases h
    · obtain rfl := Option.some.inj h; exact ⟨rfl, rfl⟩
  · next r hs =>
    obtain rfl := Option.some.inj h
    exact ⟨rfl, by simp [Lease.draining, hs]⟩

theorem engineHolds_loseTarget {s : State} {v : TargetIx} {f : LastFault} {x : Handle × TargetIx} :
    (loseTarget v f s).engineHolds x ↔ s.engineHolds x ∧ x.2 ≠ v := by
  unfold State.engineHolds
  rw [queue_loseTarget, read_loseTarget]
  have hqueue : x ∈ (s.queue.filter fun w => !(w.target == v)).map PostedWrite.tag ↔
      x ∈ s.queue.map PostedWrite.tag ∧ x.2 ≠ v := by
    simp only [List.mem_map, List.mem_filter, Bool.not_eq_true', beq_eq_false_iff_ne]
    constructor
    · rintro ⟨w, ⟨hw, hv⟩, rfl⟩; exact ⟨⟨w, hw, rfl⟩, hv⟩
    · rintro ⟨⟨w, hw, rfl⟩, hv⟩; exact ⟨w, ⟨hw, hv⟩, rfl⟩
  have hread : (s.read.filter fun y => !(y.target == v)).map PendingRead.tag = some x ↔
      s.read.map PendingRead.tag = some x ∧ x.2 ≠ v := by
    simp only [Option.map_eq_some_iff, Option.filter_eq_some_iff, Bool.not_eq_true', beq_eq_false_iff_ne]
    constructor
    · rintro ⟨y, ⟨hy, hv⟩, rfl⟩; exact ⟨⟨y, hy, rfl⟩, hv⟩
    · rintro ⟨⟨y, hy, rfl⟩, hv⟩; exact ⟨y, ⟨hy, hv⟩, rfl⟩
  rw [hqueue, hread, or_and_right]

/-- The accesses of an entry stay in the engine when none of them is for the lost target. -/
theorem tagged_loseTarget {s : State} {v : TargetIx} (f : LastFault) {i : EntryIx}
    (h : ∀ x, s.engineHolds x → x.1.index = i → x.2 ≠ v) : (loseTarget v f s).tagged i = s.tagged i := by
  unfold State.tagged
  rw [queue_loseTarget, read_loseTarget, List.countP_filter]
  congr 1
  · refine List.countP_congr fun w hw => ?_
    simp only [Bool.and_eq_true, beq_iff_eq, Bool.not_eq_true', beq_eq_false_iff_ne, and_iff_left_iff_imp]
    exact fun hi => h w.tag (.inl (List.mem_map_of_mem hw)) hi
  · cases hx : s.read with
    | none => rfl
    | some x =>
      by_cases hi : x.handle.index = i
      · have hv := h x.tag (.inr (by rw [hx]; rfl)) hi
        have : (x.target == v) = false := beq_eq_false_iff_ne.mpr hv
        simp [Option.filter, this]
      · cases hb : x.target == v <;> simp [Option.filter, hb, hi]

theorem OutstandingLaw.loseTarget {s : State} (h : OutstandingLaw s) (v : TargetIx) (f : LastFault) :
    OutstandingLaw (loseTarget v f s) := by
  obtain ⟨hcount, hlive, hstalled⟩ := outstandingLaw_iff.mp h
  have hmarked : ∀ {g : Handle} {l : Lease}, s.entry g.index = { generation := g.generation, lease := some l } →
      l.claim.target ≠ v → ∃ b, (Machine.loseTarget v f s).entry g.index =
        { generation := g.generation, lease := some (l.withLost b) } := by
    intro g l hl hv
    refine ⟨s.queue.any fun w => w.target == v && w.handle.index == g.index, ?_⟩
    rw [entry_loseTarget, Entry.settleLost_eq, Entry.withLost_lease, Entry.withLost_generation, hl,
      Option.map_some, Option.bind_some]
    exact congrArg (Entry.mk g.generation) (if_neg hv)
  refine outstandingLaw_iff.mpr ⟨fun i => ?_, fun x hx => ?_, fun w hw => ?_⟩
  · cases hl : s.lease i with
    | none =>
      have hzero := (hcount i).1 hl
      have hempty : ∀ x, s.engineHolds x → x.1.index ≠ i := fun x hx hi => by
        have := tagged_pos_iff.mpr ⟨x, hx, hi⟩
        omega
      have hnone : (Machine.loseTarget v f s).lease i = none := by rw [lease_loseTarget, hl]; rfl
      refine ⟨fun _ => ?_, fun m hm => (nomatch hnone.symm.trans hm)⟩
      rw [tagged_loseTarget f fun x hx hi => absurd hi (hempty x hx), hzero]
    | some l =>
      have htarget : ∀ x, s.engineHolds x → x.1.index = i → x.2 = l.claim.target := by
        rintro x hx rfl
        obtain ⟨k, hk, hkv⟩ := hlive x hx
        obtain rfl := Option.some.inj (hl.symm.trans (lease_of_live hk))
        exact hkv.symm
      have hlost := lease_loseTarget v f s i
      rw [hl, Option.bind_some] at hlost
      by_cases hv : l.claim.target = v
      · rw [if_pos hv] at hlost
        have hzero : (Machine.loseTarget v f s).tagged i = 0 := by
          by_contra hne
          obtain ⟨x, hx, hi⟩ := tagged_pos_iff.mp (Nat.pos_of_ne_zero hne)
          obtain ⟨hx, hxv⟩ := engineHolds_loseTarget.mp hx
          exact hxv ((htarget x hx hi).trans hv)
        refine ⟨fun _ => hzero, fun m hm => ?_⟩
        obtain ⟨hout, hdrain⟩ := Lease.settleLost_terms (hlost.symm.trans hm)
        exact ⟨hout.trans hzero.symm, fun _ => hout, by simp [hdrain]⟩
      · rw [if_neg hv] at hlost
        have hsame : (Machine.loseTarget v f s).tagged i = s.tagged i :=
          tagged_loseTarget f fun x hx hi => (htarget x hx hi).symm ▸ hv
        refine ⟨fun hno => (nomatch hno.symm.trans hlost), fun m hm => ?_⟩
        obtain rfl := Option.some.inj (hlost.symm.trans hm)
        rw [hsame]
        exact (hcount i).2 l hl
  · obtain ⟨hx, hv⟩ := engineHolds_loseTarget.mp hx
    obtain ⟨l, hl, htarget⟩ := hlive x hx
    obtain ⟨b, hb⟩ := hmarked hl (htarget.symm ▸ hv)
    exact ⟨_, hb, htarget⟩
  · rw [stalled_loseTarget] at hw
    obtain ⟨hw, hv⟩ := Option.filter_eq_some_iff.mp hw
    have hv : w.target ≠ v := by simpa using hv
    obtain ⟨l, hl, htarget, hheld, hp⟩ := hstalled w hw
    obtain ⟨b, hb⟩ := hmarked hl (htarget.symm ▸ hv)
    exact ⟨_, hb, htarget, hheld, hp⟩

end Sys2Proof.Machine
end

section
/-! The law of the outstanding counts holds along every step. -/

namespace Sys2Proof.Machine

theorem tagged_admitWrite (w : PostedWrite) (s : State) (i : EntryIx) :
    (admitWrite w s).tagged i = s.tagged i + tagCount w.tag i := by
  have hread := (admitWrite_keeps w s).read
  unfold State.tagged tagCount
  rw [queue_admitWrite, hread, List.countP_append, List.countP_singleton]
  simp only [beq_iff_eq]
  omega

theorem engineHolds_admitWrite {w : PostedWrite} {s : State} {x : Handle × TargetIx}
    (h : (admitWrite w s).engineHolds x) : s.engineHolds x ∨ x = w.tag := by
  unfold State.engineHolds at h ⊢
  rw [queue_admitWrite, (admitWrite_keeps w s).read, List.map_append, List.mem_append] at h
  rcases h with (h | h) | h
  · exact .inl (.inl h)
  · exact .inr (List.mem_singleton.mp h)
  · exact .inl (.inr h)

theorem OutstandingLaw.admitWrite {s : State} (h : OutstandingLaw s) {w : PostedWrite}
    (hw : ∃ l, s.entry w.handle.index = { generation := w.handle.generation, lease := some l } ∧
      l.claim.target = w.target ∧ l.state = .held) : OutstandingLaw (admitWrite w s) :=
  h.admitted (x := w.tag) hw (tagged_admitWrite w s) (fun _ hx => engineHolds_admitWrite hx) (fun _ => rfl)
    fun _ hv => (admitWrite_keeps w s).stalled ▸ hv

theorem OutstandingLaw.admitStalled {s : State} (h : OutstandingLaw s) : OutstandingLaw (admitStalled s) := by
  unfold Machine.admitStalled
  split
  · exact h
  · next w hw =>
    split
    · obtain ⟨l, hl, hv, hheld, -⟩ := (outstandingLaw_iff.mp h).2.2 w hw
      have hunstalled : OutstandingLaw { s with stalled := none } :=
        h.of_same ⟨rfl, rfl⟩ (fun _ => rfl) nofun
      exact hunstalled.admitWrite ⟨l, hl, hv, hheld⟩
    · exact h

theorem OutstandingLaw.takeRead {s : State} (h : OutstandingLaw s) (hnone : s.read = none) {x : PendingRead}
    (hx : ∃ l, s.entry x.handle.index = { generation := x.handle.generation, lease := some l } ∧
      l.claim.target = x.target ∧ l.state = .held) :
    OutstandingLaw { countAdmission x.handle.index s with read := some x } := by
  have hk := countAdmission_keeps x.handle.index s
  have hqueue : ({ countAdmission x.handle.index s with read := some x } : State).queue = s.queue := hk.queue
  refine h.admitted (x := x.tag) hx (fun i => ?_) (fun y hy => ?_) (fun _ => rfl) fun _ hv => hk.stalled ▸ hv
  · unfold State.tagged tagCount
    rw [hqueue, hnone]
    simp
  · unfold State.engineHolds at hy ⊢
    rw [hqueue] at hy
    exact hy.elim (fun hy => .inl (.inl hy)) fun hy => .inr (Option.some.inj hy).symm

theorem OutstandingLaw.finishWrite {s : State} (h : OutstandingLaw s) {w : PostedWrite}
    {rest : List PostedWrite} (hq : s.queue = w :: rest) (lost : Bool) (e : Option AccessEnd) :
    OutstandingLaw (finishAccess w.handle lost (s.withoutWrite rest e)).1 := by
  have hk := finishAccess_keeps w.handle lost (s.withoutWrite rest e)
  have hqueue : (finishAccess w.handle lost (s.withoutWrite rest e)).1.queue = rest := hk.queue
  have hread : (finishAccess w.handle lost (s.withoutWrite rest e)).1.read = s.read := hk.read
  refine h.finished (x := w.tag) (lost := lost) (.inl (by simp [hq])) (fun i => ?_) (fun y hy => ?_)
    (fun i => ?_) fun v hv => ?_
  · unfold State.tagged tagCount
    rw [hqueue, hread, hq, List.countP_cons]
    simp only [beq_iff_eq]
    omega
  · unfold State.engineHolds at hy ⊢
    rw [hqueue, hread] at hy
    rw [hq, List.map_cons]
    exact hy.imp (List.mem_cons_of_mem _) id
  · exact entry_finishAccess w.handle lost (s.withoutWrite rest e) i
  · exact hk.stalled.symm.trans hv

theorem OutstandingLaw.finishRead {s : State} (h : OutstandingLaw s) {x : PendingRead} (hx : s.read = some x)
    (late : Bool) (words : List Word) (e : Option AccessEnd) :
    OutstandingLaw (s.readFinished x late words e) := by
  have hk := finishRead_keeps x late words e s
  have hread : (s.readFinished x late words e).read = none := by
    rw [State.readFinished, (readEnded_keeps _).read, (returnRead_keeps _ _ _ _).read]
    exact (finishAccess_keeps x.handle false (s.withoutRead e)).read
  refine h.finished (x := x.tag) (lost := false) (.inr (by rw [hx]; rfl)) (fun i => ?_) (fun y hy => ?_)
    (fun i => ?_) fun v hv => ?_
  · unfold State.tagged tagCount
    rw [hk.queue, hread, hx]
    simp
  · unfold State.engineHolds at hy ⊢
    rw [hk.queue, hread] at hy
    exact hy.imp id nofun
  · rw [State.readFinished, (readEnded_keeps _).entry i, (returnRead_keeps _ _ _ _).entry i]
    exact entry_finishAccess x.handle false (s.withoutRead e) i
  · exact hk.stalled.symm.trans hv

theorem Entry.eq_of {a b : Entry} (hg : a.generation = b.generation) (hl : a.lease = b.lease) : a = b := by
  cases a
  cases b
  cases hg
  cases hl
  rfl

/-- R121, R122: an entry that changes is HELD still if a write is stalled under it. -/
theorem entryGoesOn_edited {g : Stage} {s t : State} {i : EntryIx}
    (hg : (t.entry i).generation = (s.entry i).generation) (he : Edited g s i (s.lease i) (t.lease i)) :
    EntryGoesOn s t i := by
  cases hs : s.lease i with
  | none =>
    rw [hs] at he
    refine .same ?_
    exact Entry.eq_of hg ((show t.lease i = none from he).trans hs.symm)
  | some l =>
    rw [hs] at he
    cases hm : t.lease i with
    | none => rw [hm] at he; exact .freed l hs hm he.2.2.1
    | some m =>
      rw [hm] at he
      obtain ⟨hedit, -, -⟩ := he
      exact .edited l m hs hm hg hedit.outstanding (by rw [hedit.claim]) hedit.holder hedit.tombstone
        hedit.draining

theorem BusLaw.tgr_stalled {s : State} (h : BusLaw s) {w : PostedWrite} (hw : s.stalled = some w) :
    s.tgr w.port = true := (h.core.owner w.port).mpr (h.core.stalled w hw)

theorem stalledHeld_edited {g : Stage} {s t : State} {w : PostedWrite} (hbus : BusLaw s)
    (hw : s.stalled = some w) (h : StalledHeld s w)
    (hg : (t.entry w.handle.index).generation = (s.entry w.handle.index).generation)
    (he : Edited g s w.handle.index (s.lease w.handle.index) (t.lease w.handle.index)) : StalledHeld t w := by
  obtain ⟨l, hl, hv, hheld, hp⟩ := h
  have hlease := lease_of_live hl
  have hstalled : ¬ Unstalled s w.handle.index l := by
    rintro (hnot | hnot | hnot)
    · exact hnot w hw rfl
    · exact hnot hheld
    · rw [hp, hbus.tgr_stalled hw] at hnot
      cases hnot
  rw [hlease] at he
  cases hm : t.lease w.handle.index with
  | none => rw [hm] at he; exact absurd he.2.2.2 hstalled
  | some m =>
    rw [hm] at he
    obtain ⟨hedit, -, hkeep⟩ := he
    have hentry : t.entry w.handle.index = { generation := w.handle.generation, lease := some m } := by
      have hgen : (t.entry w.handle.index).generation = w.handle.generation := by rw [hg, hl]
      rw [← hgen, ← hm]
      rfl
    refine ⟨m, hentry, by rw [hedit.claim]; exact hv, (hkeep.resolve_right hstalled) hheld,
      hedit.holder.trans hp⟩

theorem stalledHeld_of_entry {s t : State} (h : OutstandingLaw s)
    (hst : ∀ w, t.stalled = some w → s.stalled = some w ∧ t.entry w.handle.index = s.entry w.handle.index) :
    ∀ w, t.stalled = some w → StalledHeld t w := fun w hw => by
  obtain ⟨hw, he⟩ := hst w hw
  exact ((outstandingLaw_iff.mp h).2.2 w hw).of_entry he

/-- R6, R12: a grant begins with nothing outstanding. -/
theorem OutstandingLaw.granted {s t : State} (h : OutstandingLaw s) (hsame : SameAccesses s t)
    (hst : t.stalled = s.stalled) (he : ∀ i, t.entry i = s.entry i ∨
      s.lease i = none ∧ ∃ m, t.lease i = some m ∧ m.outstanding = 0 ∧ m.state = .held) :
    OutstandingLaw t := by
  refine h.goesOn hsame (fun i => ?_) (stalledHeld_of_entry h fun w hw => ⟨hst ▸ hw, ?_⟩)
  · rcases he i with he | ⟨hs, m, hm, hzero, hheld⟩
    · exact .same he
    · exact .granted m hs hm hzero hheld
  · rcases he w.handle.index with he | ⟨hs, -⟩
    · exact he
    · obtain ⟨l, hl, -⟩ := (outstandingLaw_iff.mp h).2.2 w (hst ▸ hw)
      exact nomatch hs.symm.trans (lease_of_live hl)

theorem sameAccesses_capture (x : Holding) (w : Word) (s : State) : SameAccesses s (capture x w s) := by
  unfold capture
  split
  · exact ⟨rfl, rfl⟩
  · split
    · next y hy => exact ⟨rfl, by rw [hy]; rfl⟩
    · exact ⟨rfl, rfl⟩
  · split
    · exact ⟨rfl, rfl⟩
    · exact ⟨rfl, rfl⟩

theorem sameAccesses_loseGrant (p : Port) (r : Requester) (s : State) :
    SameAccesses s (loseGrant p r s) := by
  refine ⟨(loseGrant_keeps p r s).queue, ?_⟩
  have hread : (loseGrant p r s).read = (grantLost p r s).read := (arbitrate_keeps _).read
  rw [hread, read_grantLost, Option.map_map]
  refine congrArg (Option.map · s.read) (funext fun x => ?_)
  dsimp only [Function.comp]
  split <;> rfl

/-- R12, R121: with the laws of the bus, of the targets and of the map, every move keeps the law. -/
theorem outstandingLaw_move {g : Stage} {s t : State} (hm : Move g s t) (hbus : BusLaw s)
    (htarget : TargetLaw s) (hmap : MapLaw s) (h : OutstandingLaw s) : OutstandingLaw t := by
  have hheld : ∀ {p d x v}, Passes s p d x v →
      ∃ l, s.entry x.index = { generation := x.generation, lease := some l } ∧
        l.claim.target = v ∧ l.state = .held := fun hp => by
    obtain ⟨l, hl, hv, hheld, -⟩ := hp.held htarget hmap
    exact ⟨l, hl, hv, hheld⟩
  cases hm with
  | aside hk => exact h.of_keeps hk
  | clock hk => exact h.of_keeps hk
  | link p u => exact h.of_keeps (keeps_setLink s p u)
  | quota => exact h.of_keeps (keeps_quotas s _)
  | directory hk hg he =>
    exact h.goesOn (.of_keeps hk) (fun i => entryGoesOn_edited (hg i) (he i)) fun w hw =>
      stalledHeld_edited hbus (hk.stalled ▸ hw) ((outstandingLaw_iff.mp h).2.2 w (hk.stalled ▸ hw)) (hg _) (he _)
  | reshape i l c hl hs ht =>
    refine h.goesOn ⟨rfl, rfl⟩ (fun j => ?_) (stalledHeld_of_entry h fun w hw => ⟨hw, ?_⟩)
    · by_cases hj : j = i
      · subst hj
        exact .edited l { l with claim := c } hl (lease_setLease_self s j _) (generation_setLease s j j _) rfl ht
          rfl .inl .inl
      · exact .same (entry_setLease_of_ne s _ hj)
    · refine entry_setLease_of_ne s _ fun hi => ?_
      obtain ⟨k, hk, -, hkheld, -⟩ := (outstandingLaw_iff.mp h).2.2 w hw
      have hkl := lease_of_live hk
      rw [hi, hl] at hkl
      obtain rfl := Option.some.inj hkl
      rw [hs] at hkheld
      cases hkheld
  | drain i l hl hd ho => exact absurd ho ((((outstandingLaw_iff.mp h).1 i).2 l hl).2.2 hd)
  | holdClose p i n => exact h.of_keeps (holdClose_keeps p i n s)
  | openGrant p c i ho =>
    obtain ⟨hself, hother⟩ := grantLease_entry i p c s
    refine h.granted ⟨rfl, rfl⟩ rfl fun j => ?_
    by_cases hj : j = i
    · subst hj
      exact .inr ⟨freeEntry_free (openEntry_some ho).2, _, by rw [State.lease, hself], rfl, rfl⟩
    · exact .inl (hother j hj)
  | enqueue => exact h.of_same ⟨rfl, rfl⟩ (fun _ => rfl) fun _ => id
  | scan =>
    have hk := scan_keeps s
    obtain ⟨granted, hscanned⟩ := scan_scanned s
    refine h.granted (.of_keeps hk) hk.stalled fun i => ?_
    rcases hscanned.entry i with he | ⟨hnone, w, -, he, -⟩
    · exact .inl he
    · exact .inr ⟨hnone, _, by rw [State.lease, he]; rfl, rfl, rfl⟩
  | refuse f r => exact h.of_keeps (refuseWaiters_keeps f r s)
  | leave => exact h.of_same ⟨rfl, rfl⟩ (fun _ => rfl) fun _ => id
  | freeTicket => exact h.of_same ⟨rfl, rfl⟩ (fun _ => rfl) fun _ => id
  | waitTick => exact h.of_same ⟨rfl, rfl⟩ (fun _ => rfl) fun _ => id
  | clearPort => exact h.of_same ⟨rfl, rfl⟩ (fun _ => rfl) fun _ => id
  | arbiter hk => exact h.of_keeps hk
  | rise p => exact h.of_keeps ((keeps_setRequester s p _).trans (arbitrate_keeps _))
  | wait p => exact h.of_same ⟨rfl, rfl⟩ (fun _ => rfl) fun _ => id
  | fall p r =>
    have hk := loseGrant_keeps p r s
    exact h.of_same (sameAccesses_loseGrant p r s) hk.entry fun _ hw => hk.stalled ▸ hw
  | unstall => exact h.of_same ⟨rfl, rfl⟩ (fun _ => rfl) nofun
  | stall w hp =>
    refine h.goesOn ⟨rfl, rfl⟩ (fun _ => .same rfl) fun v hv => ?_
    obtain rfl := Option.some.inj hv
    exact hp.held htarget hmap
  | post w hp => exact h.admitWrite (hheld hp)
  | admitStalled => exact h.admitStalled
  | takeRead x hp =>
    refine h.takeRead ?_ (hheld hp)
    by_contra hne
    obtain ⟨y, hy⟩ := Option.ne_none_iff_exists'.mp hne
    have hlost := (inHand_eq_false_iff.mp hp.noneInHand).2 y hy
    have := hbus.core.handover.mpr ⟨y, hy, hlost⟩
    exact nomatch hp.owned.symm.trans this
  | start => exact h.of_keeps (startNext_keeps s)
  | phase => exact h.of_same ⟨rfl, rfl⟩ (fun _ => rfl) fun _ => id
  | capture x w =>
    have hk := capture_keeps x w s
    exact h.of_same (sameAccesses_capture x w s) hk.entry fun _ hw => hk.stalled ▸ hw
  | finishWrite w rest lost e hq => exact h.finishWrite hq lost e
  | finishRead x late words e hx => exact h.finishRead hx late words e
  | health => exact h.of_same ⟨rfl, rfl⟩ (fun _ => rfl) fun _ => id
  | lose v f => exact h.loseTarget v f
  | @probeReady _ u v hu w =>
    have hleft : OutstandingLaw u := h.of_keeps hu.keeps
    exact hleft.of_same ⟨rfl, rfl⟩ (fun _ => rfl) fun _ => id
  | probeLost v f hu => exact (h.of_keeps hu.keeps).loseTarget v f
  | configure v r o => exact h.of_keeps (reconfigured_keeps s v r o)

theorem outstandingLaw_inReset : OutstandingLaw State.inReset := by
  have hcounts : ∀ i, State.inReset.tagged i = 0 := by decide
  exact ⟨fun i _ => hcounts i, fun i l hl => (nomatch (lease_inReset i).symm.trans hl), nofun, nofun, nofun⟩

/-- Settles O14: an access is counted where it is admitted and where it leaves the engine, and a lease is
freed, or made a tombstone, only when nothing of it is outstanding. -/
theorem outstandingLawIsKept : Obligations.OutstandingLawIsKept := by
  refine keptByStep_of_moves (fun _ _ => ?_) (fun _ _ h => h) ?_
  · exact ⟨busLaw_inReset, targetLaw_inReset, mapLaw_inReset, probeLaw_inReset, outstandingLaw_inReset⟩
  · rintro g s t hm ⟨hbus, htarget, hmap, hprobe, h⟩
    obtain ⟨hmap', hprobe'⟩ := mapAndProbe_move hm ⟨hmap, hprobe⟩
    exact ⟨busLaw_move hm hbus, targetLaw_move hm htarget, hmap', hprobe',
      outstandingLaw_move hm hbus htarget hmap h⟩

end Sys2Proof.Machine
end

section
/-! R6, R7: generations rise at grants only. -/

namespace Sys2Proof.Machine

/-- The lease goes on as one that lasts, of the same holder and claim. -/
def Lease.LastsAs (l m : Lease) : Prop := m.lasting = true ∧ m.holder = l.holder ∧ m.claim = l.claim

theorem Lease.LastsAs.refl {l : Lease} (h : l.lasting = true) : l.LastsAs l := ⟨h, rfl, rfl⟩

/-- The lease of the entry, if it lasts, is there still and lasts. -/
def LastingStays (s t : State) (i : EntryIx) : Prop :=
  ∀ l, s.lease i = some l → l.lasting = true → ∃ m, t.lease i = some m ∧ l.LastsAs m

theorem LastingStays.of_lease {s t : State} {i : EntryIx} (h : t.lease i = s.lease i) : LastingStays s t i :=
  fun l hl hs => ⟨l, h.trans hl, .refl hs⟩

/-- R77: a lease that lasts is a tombstone at the end of its drain. -/
theorem Lease.drained_lasting {l : Lease} (h : l.lasting = true) :
    ∃ m, l.drained = some m ∧ l.LastsAs m := by
  unfold Lease.lasting at h
  unfold Lease.drained
  split
  · next hs => rw [hs] at h; cases h
  · next r b hs =>
    rw [hs] at h
    rw [if_neg (by simpa using h)]
    exact ⟨_, rfl, rfl, rfl, rfl⟩
  · exact ⟨l, rfl, .refl h⟩

theorem Lease.afterEnd_lasting {l : Lease} (h : l.lasting = true) :
    ∃ m, l.afterEnd = some m ∧ l.LastsAs m := by
  rw [Lease.afterEnd_eq]
  split
  · exact Lease.drained_lasting h
  · exact ⟨l, rfl, .refl h⟩

theorem Lease.settleLost_lasting {l : Lease} (h : l.lasting = true) :
    ∃ m, l.settleLost = some m ∧ l.LastsAs m := by
  unfold Lease.settleLost
  split
  · exact ⟨_, rfl, rfl, rfl, rfl⟩
  · exact ⟨_, rfl, rfl, rfl, rfl⟩
  · next hs => rw [Lease.lasting, hs] at h; cases h
  · next r b hs => exact Lease.drained_lasting (l := { l with outstanding := 0, boundaryDue := false }) h
  · exact ⟨_, rfl, h, rfl, rfl⟩

/-- A move that makes no grant leaves the generation of an entry as it is, and from the first scan on a lease
that lasts stays. -/
def EntryStays (g : Stage) (s t : State) (i : EntryIx) : Prop :=
  (t.entry i).generation = (s.entry i).generation ∧ (s.lease i = none → t.lease i = none) ∧
    (g ≠ .before → LastingStays s t i)

theorem EntryStays.of_entry {g : Stage} {s t : State} {i : EntryIx} (h : t.entry i = s.entry i) :
    EntryStays g s t i := by
  have hl : t.lease i = s.lease i := by rw [State.lease, h]; rfl
  exact ⟨by rw [h], fun hs => hl.trans hs, fun _ => .of_lease hl⟩

theorem EntryStays.of_keeps {g : Stage} {may : List Part} {s t : State} (h : KeepsAllBut may s t) (i : EntryIx)
    (hd : .directory ∉ may := by decide) : EntryStays g s t i := .of_entry (h.entry i hd)

/-- A lease that goes on as `f` says. -/
theorem EntryStays.of_bind {g : Stage} {s t : State} {i : EntryIx} {f : Lease → Option Lease}
    (hg : (t.entry i).generation = (s.entry i).generation) (hl : t.lease i = (s.lease i).bind f)
    (hf : ∀ l, l.lasting = true → ∃ m, f l = some m ∧ l.LastsAs m) : EntryStays g s t i := by
  refine ⟨hg, fun hs => by rw [hl, hs]; rfl, fun _ l hs hlast => ?_⟩
  rw [hl, hs]
  exact hf l hlast

theorem entryStays_countAdmission {g : Stage} {s t : State} {j : EntryIx}
    (h : ∀ i, t.entry i = (countAdmission j s).entry i) (i : EntryIx) : EntryStays g s t i := by
  have he := (h i).trans (entry_countAdmission j i s)
  split at he
  · refine .of_bind (f := fun l => some { l with outstanding := l.outstanding + 1 }) (by rw [he]) ?_
      fun l hl => ⟨_, rfl, hl, rfl, rfl⟩
    rw [State.lease, he]
    cases s.lease i <;> rfl
  · exact .of_entry he

theorem entryStays_finishAccess {g : Stage} {s u t : State} {x : Handle} {lost : Bool}
    (hu : ∀ i, u.entry i = s.entry i) (ht : ∀ i, t.entry i = (finishAccess x lost u).1.entry i) (i : EntryIx) :
    EntryStays g s t i := by
  have he := (ht i).trans (entry_finishAccess x lost u i)
  have hl : u.lease i = s.lease i := by rw [State.lease, hu]; rfl
  rw [hu, hl] at he
  split at he
  · exact .of_bind (f := fun l => (l.ended lost).afterEnd) (by rw [he]) (by rw [State.lease, he])
      fun l hlast => Lease.afterEnd_lasting (l := l.ended lost) hlast
  · exact .of_entry he

theorem entryStays_loseTarget {g : Stage} {s u : State} (v : TargetIx) (f : LastFault)
    (hu : ∀ i, u.entry i = s.entry i) (i : EntryIx) : EntryStays g s (loseTarget v f u) i := by
  have hgen : ((loseTarget v f u).entry i).generation = (s.entry i).generation := by
    rw [entry_loseTarget, Entry.settleLost_eq, hu]
    rfl
  have hlease := lease_loseTarget v f u i
  have hl : u.lease i = s.lease i := by rw [State.lease, hu]; rfl
  rw [hl] at hlease
  refine .of_bind hgen hlease fun l hlast => ?_
  split
  · exact Lease.settleLost_lasting (l := l.withLost _) hlast
  · exact ⟨_, rfl, hlast, rfl, rfl⟩

theorem entryStays_edited {g : Stage} {s t : State} {i : EntryIx}
    (hg : (t.entry i).generation = (s.entry i).generation) (he : Edited g s i (s.lease i) (t.lease i)) :
    EntryStays g s t i := by
  refine ⟨hg, fun hs => by rw [hs] at he; exact he, fun hstage l hl hlast => ?_⟩
  rw [hl] at he
  cases hm : t.lease i with
  | none => rw [hm] at he; exact absurd he.1 hstage
  | some m => rw [hm] at he; exact ⟨m, rfl, (he.2.1.resolve_left hstage) hlast, he.1.holder, he.1.claim⟩

theorem entryStays_setLease {g : Stage} {s : State} {i : EntryIx} {l : Lease} {m : Option Lease}
    (hl : s.lease i = some l) (hm : g ≠ .before → l.lasting = true → ∃ k, m = some k ∧ l.LastsAs k)
    (j : EntryIx) : EntryStays g s (s.setLease i m) j := by
  by_cases hj : j = i
  · subst hj
    refine ⟨generation_setLease s j j m, fun hs => (nomatch hl.symm.trans hs), fun hg k hk hlast => ?_⟩
    obtain rfl := Option.some.inj (hl.symm.trans hk)
    rw [lease_setLease_self]
    exact hm hg hlast
  · exact .of_entry (entry_setLease_of_ne s m hj)

theorem Move.entry_cases {g : Stage} {s t : State} (hm : Move g s t) (hg : g ≠ .opening) :
    (g ≠ .before ∧ t = Machine.scan s) ∨ ∀ i, EntryStays g s t i := by
  cases hm with
  | aside hk => exact .inr fun i => .of_keeps hk i
  | clock hk => exact .inr fun i => .of_keeps hk i
  | link p u => exact .inr fun i => .of_keeps (keeps_setLink s p u) i
  | quota => exact .inr fun i => .of_entry rfl
  | directory _ hgen he => exact .inr fun i => entryStays_edited (hgen i) (he i)
  | reshape i l c hl hs => exact .inr (entryStays_setLease hl fun hno => absurd rfl hno)
  | drain i l hl =>
    have hset := entryStays_setLease (g := g) hl fun _ hlast => Lease.drained_lasting hlast
    refine .inr fun j => ?_
    obtain ⟨hgen, hfree, hlast⟩ := hset j
    have he := entry_endDrain i j l 0x00 s
    have hlease : (endDrain i l 0x00 s).lease j = (s.setLease i l.drained).lease j := by
      rw [State.lease, he]; rfl
    exact ⟨by rw [he, hgen], fun hs => hlease.trans (hfree hs), fun hg k hk hkl => hlease ▸ hlast hg k hk hkl⟩
  | holdClose p i n => exact .inr fun j => .of_keeps (holdClose_keeps p i n s) j
  | openGrant => exact absurd rfl hg
  | enqueue => exact absurd rfl hg
  | scan hstage => exact .inl ⟨by rcases hstage with rfl | rfl <;> simp, rfl⟩
  | refuse f r => exact .inr fun i => .of_keeps (refuseWaiters_keeps f r s) i
  | leave => exact .inr fun i => .of_entry rfl
  | freeTicket => exact .inr fun i => .of_entry rfl
  | waitTick => exact .inr fun i => .of_entry rfl
  | clearPort => exact .inr fun i => .of_entry rfl
  | arbiter hk => exact .inr fun i => .of_keeps hk i
  | rise p => exact .inr fun i => .of_keeps ((keeps_setRequester s p _).trans (arbitrate_keeps _)) i
  | wait => exact .inr fun i => .of_entry rfl
  | fall p r => exact .inr fun i => .of_keeps (loseGrant_keeps p r s) i
  | unstall => exact .inr fun i => .of_entry rfl
  | stall => exact .inr fun i => .of_entry rfl
  | post w => exact .inr (entryStays_countAdmission (j := w.handle.index) fun _ => rfl)
  | admitStalled =>
    unfold Machine.admitStalled
    split
    · exact .inr fun i => .of_entry rfl
    · next w _ =>
      split
      · have hcount : ∀ i, (admitWrite w { s with stalled := none }).entry i =
            (countAdmission w.handle.index { s with stalled := none }).entry i := fun _ => rfl
        exact .inr fun i => entryStays_countAdmission (s := { s with stalled := none }) hcount i
      · exact .inr fun i => .of_entry rfl
  | takeRead x => exact .inr (entryStays_countAdmission (j := x.handle.index) fun _ => rfl)
  | start => exact .inr fun i => .of_keeps (startNext_keeps s) i
  | phase => exact .inr fun i => .of_entry rfl
  | capture x w => exact .inr fun i => .of_keeps (capture_keeps x w s) i
  | finishWrite w rest lost e =>
    exact .inr (entryStays_finishAccess (u := s.withoutWrite rest e) (fun _ => rfl) fun _ => rfl)
  | finishRead x late words e =>
    refine .inr (entryStays_finishAccess (u := s.withoutRead e) (x := x.handle) (lost := false) (fun _ => rfl)
      fun i => ?_)
    exact ((readEnded_keeps _).entry i).trans ((returnRead_keeps _ _ _ _).entry i)
  | health => exact .inr fun i => .of_entry rfl
  | lose v f => exact .inr (entryStays_loseTarget v f fun _ => rfl)
  | probeReady v hu => exact .inr fun i => .of_entry (hu.keeps.entry i)
  | probeLost v f hu => exact .inr (entryStays_loseTarget v f hu.keeps.entry)
  | configure v r o => exact .inr fun i => .of_keeps (reconfigured_keeps s v r o) i

/-! ### A step, entry by entry -/

/-- The entry has not been granted. -/
def NotGranted (s t : State) (i : EntryIx) : Prop :=
  (t.entry i).generation = (s.entry i).generation ∧ (s.lease i = none → t.lease i = none)

/-- R6, R35: the entry has been granted to a request that has left the wait list, and is held still. -/
def GrantedOnce (s t : State) (i : EntryIx) : Prop :=
  (t.entry i).generation = (s.entry i).generation + 1 ∧ ∃ l, t.lease i = some l ∧ l.lasting = true ∧
    ∃ w, w ∈ s.waitList ∧ l.holder = w.port ∧ l.claim = w.claim ∧
      t.waitersOf w.port w.slot < s.waitersOf w.port w.slot

/-- What a step that opens nothing has done so far. -/
def Progress (s t : State) : Prop :=
  WaitersFollow s t ∧ ∀ i, NotGranted s t i ∨ GrantedOnce s t i

theorem Waiter.Follows.trans {a b c : Waiter} (h : a.Follows b) (h' : b.Follows c) : a.Follows c := by
  refine ⟨h'.port.trans h.port, h'.slot.trans h.slot, h'.claim.trans h.claim, ?_⟩
  rcases h.remaining with he | ⟨m, n, hm, hn, hlow, hle⟩
  · rcases h'.remaining with he' | ⟨m', n', hm', hn', hlow', hle'⟩
    · exact .inl (he'.trans he)
    · exact .inr ⟨m', n', he ▸ hm', hn', hlow', hle'⟩
  · rcases h'.remaining with he' | ⟨m', n', hm', hn', hlow', hle'⟩
    · exact .inr ⟨m, n, hm, he'.trans hn, hlow, hle⟩
    · obtain rfl := Option.some.inj (hn.symm.trans hm')
      exact .inr ⟨m, n', hm, hn', hlow', hle'.trans hle⟩

theorem WaitersFollow.trans {s t u : State} (h : WaitersFollow s t) (h' : WaitersFollow t u) :
    WaitersFollow s u := by
  refine ⟨h'.length.trans h.length, fun w hw => ?_, fun p k => (h'.count p k).trans (h.count p k)⟩
  obtain ⟨v, hv, hvw⟩ := h'.follow w hw
  obtain ⟨x, hx, hxv⟩ := h.follow v hv
  exact ⟨x, hx, hxv.trans hvw⟩

theorem WaitersFollow.refl (s : State) : WaitersFollow s s := .of_eq rfl

theorem Move.waitersFollow {g : Stage} {s t : State} (hm : Move g s t) (hg : g ≠ .opening) :
    WaitersFollow s t :=
  hm.waitList_cases.resolve_right fun ⟨_, _, _, _, ho, _⟩ => hg ho

/-- Before the first scan nothing is granted. -/
theorem notGranted_before {s t : State} (h : Moves .before s t) : ∀ i, NotGranted s t i := by
  induction h with
  | refl => exact fun i => ⟨rfl, id⟩
  | @tail u v _ hm ih =>
    intro i
    rcases hm.entry_cases (by simp) with ⟨hno, -⟩ | he
    · exact absurd rfl hno
    · obtain ⟨hgen, hfree, -⟩ := he i
      exact ⟨hgen.trans (ih i).1, fun hs => hfree ((ih i).2 hs)⟩

theorem GrantedOnce.stays {s t u : State} {i : EntryIx} (h : GrantedOnce s t i)
    (hgen : (u.entry i).generation = (t.entry i).generation)
    (hl : LastingStays t u i) (hw : WaitersFollow t u) : GrantedOnce s u i := by
  obtain ⟨hg, l, hlt, hlast, w, hws, hh, hc, hcount⟩ := h
  obtain ⟨m, hm, hlast, hmh, hmc⟩ := hl l hlt hlast
  exact ⟨hgen.trans hg, m, hm, hlast, w, hws, hmh.trans hh, hmc.trans hc, (hw.count _ _).trans_lt hcount⟩

theorem progress_scan {s t : State} (h : Progress s t) : Progress s (scan t) := by
  obtain ⟨hw, he⟩ := h
  obtain ⟨granted, hs⟩ := scan_scanned t
  have hfollow : WaitersFollow t (scan t) := .of_sublist hs.sublist
  refine ⟨hw.trans hfollow, fun i => ?_⟩
  rcases hs.entry i with hsame | ⟨hnone, w, hwg, hentry, -⟩
  · have hl : (scan t).lease i = t.lease i := by rw [State.lease, hsame]; rfl
    rcases he i with ⟨hgen, hfree⟩ | hg
    · exact .inl ⟨by rw [hsame, hgen], fun h => hl.trans (hfree h)⟩
    · exact .inr (hg.stays (by rw [hsame]) (.of_lease hl) hfollow)
  · rcases he i with ⟨hgen, -⟩ | ⟨-, l, hl, -⟩
    · have hmem : w ∈ t.waitList := hs.perm.mem_iff.mpr (List.mem_append_left _ hwg)
      obtain ⟨v, hv, hvw⟩ := hw.follow w hmem
      refine .inr ⟨by rw [hentry, ← hgen]; rfl, _, by rw [State.lease, hentry]; rfl, rfl, v, hv, hvw.port,
        hvw.claim, lt_of_lt_of_le ?_ (hw.count _ _)⟩
      have hcount : t.waitersOf v.port v.slot =
          granted.countP (Waiter.isOf v.port v.slot) + (scan t).waitersOf v.port v.slot := by
        unfold State.waitersOf
        rw [hs.perm.countP_eq, List.countP_append]
      have hpos : 0 < granted.countP (Waiter.isOf v.port v.slot) :=
        List.countP_pos_iff.mpr ⟨w, hwg, by simp [Waiter.isOf, hvw.port, hvw.slot]⟩
      omega
    · exact nomatch hnone.symm.trans hl

theorem progress_move {g : Stage} {s t u : State} (hm : Move g t u) (ho : g ≠ .opening) (hb : g ≠ .before)
    (h : Progress s t) : Progress s u := by
  rcases hm.entry_cases ho with ⟨-, rfl⟩ | he
  · exact progress_scan h
  · have hfollow := hm.waitersFollow ho
    refine ⟨h.1.trans hfollow, fun i => ?_⟩
    obtain ⟨hgen, hfree, hlasting⟩ := he i
    rcases h.2 i with ⟨hg, hf⟩ | hg
    · exact .inl ⟨hgen.trans hg, fun hs => hfree (hf hs)⟩
    · exact .inr (hg.stays hgen (hlasting hb) hfollow)

theorem progress_stepped {s t : State} (h : Stepped s t) : Progress s t := by
  have hfollow : ∀ {u v}, Moves .before u v → WaitersFollow u v := fun hm => by
    induction hm with
    | refl => exact .refl _
    | tail _ hm ih => exact ih.trans (hm.waitersFollow (by simp))
  obtain ⟨u, hbefore, hran⟩ := h
  have hstart : Progress s u := ⟨hfollow hbefore, fun i => .inl (notGranted_before hbefore i)⟩
  have hmoves : ∀ {g v w}, g ≠ .opening → g ≠ .before → Moves g v w → Progress s v → Progress s w :=
    fun ho hb hm => hm.keeps fun _ _ hm => progress_move hm ho hb
  rcases hran with hafter | ⟨v, w, hv, ⟨x, hx, rfl⟩, ht⟩
  · exact hmoves (by simp) (by simp) hafter hstart
  · have hengine := hmoves (by simp) (by simp) hx (hmoves (by simp) (by simp) hv hstart)
    exact hmoves (by simp) (by simp) ht (progress_move .start (by simp) (by simp) hengine)

/-! ### An OPEN, entry by entry -/

theorem openTarget_found {s : State} {p : Port} {w : Window} {t : TargetIx} (h : s.openTarget p w = .ok t) :
    s.targetOfWindow w = some t ∧ (s.target t).state ≠ .offline := by
  unfold State.openTarget at h
  split at h
  · cases h
  · next u hu =>
    split at h
    · cases h
    · next hoff =>
      split at h
      · cases h
      · obtain rfl := Except.ok.inj h
        exact ⟨hu, hoff⟩

/-- R29: an OPEN leaves an entry as it is, or grants it to the OPEN in hand. -/
theorem entry_takeOpen (p : Port) (base count : BitVec 16) (cls wait : Byte) (limit : BitVec 16) (s : State)
    (i : EntryIx) : (takeOpen p base count cls wait limit s).entry i = s.entry i ∨
      ∃ c f, OpenFinds s base count cls wait c f ∧ (takeOpen p base count cls wait limit s).entry i =
        { generation := (s.entry i).generation + 1, lease := some (grantedLease s p c) } := by
  have hrespond : ∀ st r u, (respond p st r u).entry i = u.entry i :=
    fun st r u => (respond_keeps p st r u).entry i
  unfold takeOpen
  split
  · next w c f hw hc hf =>
    split
    · exact .inl (hrespond _ _ _)
    · next t ht =>
      have hfound : OpenFinds s base count cls wait { target := t, window := w, cls := c } f := by
        obtain ⟨htarget, hoff⟩ := openTarget_found ht
        exact ⟨hw, hc, hf, htarget, hoff⟩
      unfold decideOpen
      split
      · next j hj =>
        obtain ⟨hself, hother⟩ := grantLease_entry j p { target := t, window := w, cls := c } s
        rw [hrespond]
        by_cases hi : i = j
        · subst hi
          exact .inr ⟨_, f, hfound, hself⟩
        · exact .inl (hother i hi)
      · split
        · unfold queueOpen
          split
          · exact .inl (hrespond _ _ _)
          · split
            · exact .inl (hrespond _ _ _)
            · exact .inl (hrespond _ _ _)
        · exact .inl (hrespond _ _ _)
  · exact .inl (hrespond _ _ _)

theorem handed_eq_some_iff {s : State} {p : Port} {r : Request} :
    s.handed p = some r ↔ ∃ tag, InHandIs s p tag r := by
  unfold State.handed InHandIs
  constructor
  · intro h
    split at h
    · next c hc =>
      split at h
      · next hn =>
        obtain rfl := Option.some.inj h
        exact ⟨c.tag, by rw [hc, ← hn]⟩
      · cases h
    · cases h
  · rintro ⟨tag, h⟩
    rw [h]

theorem entry_execOpen {p : Port} {s t : State} (h : execOpen p s = .next t) (i : EntryIx) :
    t.entry i = s.entry i ∨ ∃ tag base count cls wait limit c f,
      InHandIs s p tag (.openLease base count cls wait limit) ∧ OpenFinds s base count cls wait c f ∧
        t.entry i = { generation := (s.entry i).generation + 1, lease := some (grantedLease s p c) } := by
  obtain rfl := Host.Outcome.next.inj h
  split
  · exact .inl rfl
  · dsimp only
    split
    · next base count cls wait limit hin =>
      obtain ⟨tag, htag⟩ := handed_eq_some_iff.mp hin
      rcases entry_takeOpen p base count cls wait limit s i with he | ⟨c, f, hfind, he⟩
      · exact .inl he
      · exact .inr ⟨tag, base, count, cls, wait, limit, c, f, htag, hfind, he⟩
    · exact .inl rfl

/-- Settles O15: only a scan and an OPEN grant, a step grants an entry once, and a grant in a scan takes its
request off the list. -/
theorem generationRisesAtGrantOnly : Obligations.GenerationRisesAtGrantOnly := by
  intro s t hstep hno i
  obtain ⟨rest, hstepped | ⟨p, hpending, ho⟩ | ⟨hpower, -⟩⟩ := step_stepped hstep
  · rcases (progress_stepped hstepped).2 i with ⟨hgen, hfree⟩ | ⟨hgen, l, hl, -, w, hw⟩
    · exact ⟨.inl hgen, fun hs ht => absurd (hfree hs) ht⟩
    · exact ⟨.inr ⟨hgen, l, hl, .inl ⟨w, hw⟩⟩, fun _ _ => hgen⟩
  · rcases entry_execOpen ho i with he | ⟨tag, base, count, cls, wait, limit, c, f, hin, hfind, he⟩
    · have hl : t.lease i = s.lease i := by rw [State.lease, he]; rfl
      exact ⟨.inl (by rw [he]; rfl), fun hs ht => absurd (hl.trans hs) ht⟩
    · have hgen : (t.entry i).generation = (s.entry i).generation + 1 := by rw [he]; rfl
      exact ⟨.inr ⟨hgen, _, by rw [State.lease, he], .inr ⟨p, rest, tag, base, count, cls, wait, limit, f,
        hpending, hin, hfind, rfl⟩⟩, fun _ _ => hgen⟩
  · exact absurd hpower (hno rest)

end Sys2Proof.Machine
end

section
/-! The step, the resets and the state after them. -/

namespace Sys2Proof.Machine

/-- Settles O1. -/
theorem stepRunsFrontCommand : Obligations.StepRunsFrontCommand := fun _ _ _ h => step_cons h

/-! ### Every command completes -/

theorem Move.pending {g : Stage} {s t : State} (hm : Move g s t) : t.pending = s.pending := by
  cases hm with
  | aside hk => exact hk.pending
  | clock hk => exact hk.pending
  | link => rfl
  | quota => rfl
  | directory hk => exact hk.pending
  | reshape => rfl
  | drain i l => exact (endDrain_keeps i l _ s).pending
  | holdClose p i n => exact (holdClose_keeps p i n s).pending
  | openGrant => rfl
  | enqueue => rfl
  | scan => exact (scan_keeps s).pending
  | refuse f r => exact (refuseWaiters_keeps f r s).pending
  | leave => rfl
  | freeTicket => rfl
  | waitTick => rfl
  | clearPort => rfl
  | arbiter hk => exact hk.pending
  | rise p => exact ((keeps_setRequester s p _).trans (arbitrate_keeps _)).pending
  | wait => rfl
  | fall p r => exact (loseGrant_keeps p r s).pending
  | unstall => rfl
  | stall => rfl
  | post w => exact (admitWrite_keeps w s).pending
  | admitStalled => exact (admitStalled_keeps s).pending
  | takeRead x => exact (countAdmission_keeps x.handle.index s).pending
  | start => exact (startNext_keeps s).pending
  | phase => rfl
  | capture x w => exact (capture_keeps x w s).pending
  | finishWrite w rest lost e => exact (finishAccess_keeps w.handle lost (s.withoutWrite rest e)).pending
  | finishRead x late words e => exact (finishRead_keeps x late words e s).pending
  | health => rfl
  | lose v f => exact (loseTarget_keeps v f s).pending
  | probeReady v hu => exact hu.keeps.pending
  | @probeLost _ u v f hu => exact (loseTarget_keeps v f u).pending.trans hu.keeps.pending
  | configure v r o => exact (reconfigured_keeps s v r o).pending

theorem pending_moves {g : Stage} {s t : State} (h : Moves g s t) : t.pending = s.pending := by
  induction h with
  | refl => rfl
  | tail _ hm ih => exact hm.pending.trans ih

theorem pending_stepped {s t : State} (h : Stepped s t) : t.pending = s.pending :=
  h.keeps (P := fun u => u.pending = s.pending) (fun _ _ _ hm hp => hm.pending.trans hp) rfl

/-- Log 1: a command leaves the queue of commands alone. -/
theorem pending_exec {c : Instr} {s t : State} (h : exec c s = .next t) : t.pending = s.pending := by
  by_cases hc : c = .powerOn
  · subst hc
    obtain rfl := Host.Outcome.next.inj h
    rfl
  · by_cases ho : ∃ p, c = .openLease p
    · obtain ⟨p, rfl⟩ := ho
      exact pending_moves (moves_execOpen h)
    · exact pending_stepped (exec_stepped hc (fun p e => ho ⟨p, e⟩) h)

/-- Log 10: a command that is one completes. -/
theorem exec_total {c : Instr} (s : State) (h : c.wellFormed = true) : ∃ t, exec c s = .next t := by
  cases c with
  | requestTransfer p first rest => exact ⟨_, if_pos h⟩
  | readTransfer p clocks n => exact ⟨_, if_pos (by simpa [Instr.wellFormed] using h)⟩
  | access a x => exact ⟨_, if_pos h⟩
  | brokenWrite a b n => exact ⟨_, if_pos (by simpa [Instr.wellFormed] using h)⟩
  | _ => exact ⟨_, rfl⟩

/-- Log 10: a term that is no command is refused. -/
theorem exec_illFormed {c : Instr} (s : State) (h : c.wellFormed = false) :
    exec c s = .refused .illFormed := by
  cases c with
  | requestTransfer p first rest => exact if_neg (by simpa [Instr.wellFormed] using h)
  | readTransfer p clocks n => exact if_neg (by simpa [Instr.wellFormed] using h)
  | access a x => exact if_neg (by simpa [Instr.wellFormed] using h)
  | brokenWrite a b n => exact if_neg (by simpa [Instr.wellFormed] using h)
  | _ => cases h

/-- Settles O3. -/
theorem onlyIllFormedTermsAreRefused : Obligations.OnlyIllFormedTermsAreRefused := fun c s => by
  refine ⟨fun h => ?_, exec_illFormed s⟩
  obtain ⟨t, ht⟩ := exec_total s h
  exact ⟨t, ht, pending_exec ht⟩

/-! ### Power-on -/

theorem powerOnValues_inReset : PowerOnValues State.inReset := by unfold PowerOnValues; decide

theorem outputsInactive_inReset : OutputsInactive State.inReset := by
  refine ⟨by decide, fun p n => rfl, by decide, by decide, by decide, by decide⟩

theorem outputsInactive_reset : OutputsInactive State.reset := by
  have hidle : ∀ p, (State.reset.link p).transfer = .idle := by decide
  refine ⟨by decide, fun p n => ?_, by decide, by decide, by decide, by decide⟩
  exact ldo_idle (hidle p) n

/-- Settles O4. -/
theorem powerOnSetsPowerOnValues : Obligations.PowerOnSetsPowerOnValues :=
  ⟨fun _ => ⟨_, rfl, rfl, powerOnValues_inReset, outputsInactive_inReset, rfl, rfl⟩,
    powerOnValues_inReset, outputsInactive_reset, rfl, rfl⟩

/-- Settles O6: no law looks at the RESET line, and the laws that every step keeps hold from power-on. -/
theorem resetHasEveryLaw : Obligations.ResetHasEveryLaw :=
  ⟨capacity_inReset, fieldsInRange_inReset, noConflicts_inReset, busLaw_inReset, ticketAndCharge_inReset.1,
    ticketAndCharge_inReset.2, targetLaw_inReset, mapLaw_inReset, probeLaw_inReset, engineLaw_inReset,
    outstandingLaw_inReset, closeLaw_inReset⟩

/-! ### The release of RESET -/

/-- R183: a command other than POWER_ON and the release does nothing while RESET is low. -/
theorem exec_inReset {c : Instr} {s : State} (hlow : s.resetLow = true) (hw : c.wellFormed = true)
    (hpower : c ≠ .powerOn) (hrelease : ∀ v, c ≠ .resetRelease v) : exec c s = .next s := by
  have hlive : ∀ f, whenLive s f = .next s := whenLive_resetLow hlow
  cases c with
  | powerOn => exact absurd rfl hpower
  | resetRelease v => exact absurd rfl (hrelease v)
  | requestTransfer p first rest => exact (if_pos hw).trans (hlive _)
  | readTransfer p clocks n => exact (if_pos (by simpa [Instr.wellFormed] using hw)).trans (hlive _)
  | access a x => exact (if_pos hw).trans (hlive _)
  | brokenWrite a b n => exact (if_pos (by simpa [Instr.wellFormed] using hw)).trans (hlive _)
  | _ => exact congrArg Host.Outcome.next (if_pos hlow)

theorem releasePort_keeps (v : Levels) (s : State) (p : Port) :
    KeepsAllBut [.links, .arbiter] s (releasePort v s p) :=
  fun x hx => by cases x <;> simp_all [Part.same, releasePort, State.setRequesting]

theorem link_releasePort_self (v : Levels) (s : State) (p : Port) :
    (releasePort v s p).link p = (s.link p).atRelease v.lselLow[p] v.prstLow[p] := by
  simp [releasePort, State.link]

theorem link_releasePort_of_ne (v : Levels) {s : State} {p q : Port} (h : q ≠ p) :
    (releasePort v s p).link q = s.link q := by
  have hne : p.val ≠ q.val := fun e => h (Fin.ext e.symm)
  simp [releasePort, State.link, hne]

theorem requesting_releasePort_self (v : Levels) (s : State) (p : Port) :
    (releasePort v s p).requesting p = { s.requesting p with trq := v.trqHigh[p] } :=
  requesting_setRequesting_self s p _

theorem requesting_releasePort_of_ne (v : Levels) {s : State} {p q : Port} (h : q ≠ p) :
    (releasePort v s p).requesting q = s.requesting q := requesting_setRequesting_of_ne s _ h

/-- R184: the lines of the ports of a list are looked at, each once. -/
theorem foldl_releasePort (v : Levels) (ps : List Port) (s : State) (p : Port) (hn : ps.Nodup) :
    (p ∈ ps → (ps.foldl (releasePort v) s).link p = (s.link p).atRelease v.lselLow[p] v.prstLow[p] ∧
      (ps.foldl (releasePort v) s).requesting p = { s.requesting p with trq := v.trqHigh[p] }) ∧
    (p ∉ ps → (ps.foldl (releasePort v) s).link p = s.link p ∧
      (ps.foldl (releasePort v) s).requesting p = s.requesting p) := by
  induction ps generalizing s with
  | nil => exact ⟨nofun, fun _ => ⟨rfl, rfl⟩⟩
  | cons q ps ih =>
    obtain ⟨hq, hn⟩ := List.nodup_cons.mp hn
    obtain ⟨hin, hout⟩ := ih (releasePort v s q) hn
    rw [List.foldl_cons]
    by_cases hpq : p = q
    · subst hpq
      obtain ⟨hlink, hreq⟩ := hout hq
      rw [hlink, hreq, link_releasePort_self, requesting_releasePort_self]
      exact ⟨fun _ => ⟨rfl, rfl⟩, fun h => absurd (List.mem_cons_self ..) h⟩
    · rw [link_releasePort_of_ne v hpq, requesting_releasePort_of_ne v hpq] at hin hout
      exact ⟨fun h => hin ((List.mem_cons.mp h).resolve_left hpq), fun h => hout fun h' => h (.tail _ h')⟩

theorem arb_foldl_releasePort (v : Levels) (ps : List Port) (s : State) :
    (ps.foldl (releasePort v) s).arb = { s.arb with ports := (ps.foldl (releasePort v) s).arb.ports } := by
  induction ps generalizing s with
  | nil => rfl
  | cons q ps ih => rw [List.foldl_cons, ih]; rfl

/-- Settles O5. -/
theorem resetTakesNothingButItsRelease : Obligations.ResetTakesNothingButItsRelease := by
  refine ⟨fun c s => exec_inReset, fun v s hlow => ?_, fun s p hhigh => ?_⟩
  · have hall : ∀ p : Port, p ∈ allPorts := by decide
    have hexec : exec (.resetRelease v) s = .next (allPorts.foldl (releasePort v) { s with resetLow := false }) :=
      congrArg _ (if_pos hlow)
    have hkeeps : KeepsAllBut [.links, .arbiter] { s with resetLow := false }
        (allPorts.foldl (releasePort v) { s with resetLow := false }) :=
      foldl_keeps (releasePort_keeps v) _ _
    refine ⟨_, hexec, hkeeps.resetLow, fun p => ?_, arb_foldl_releasePort v _ _, ?_⟩
    · obtain ⟨hlink, hreq⟩ := (foldl_releasePort v allPorts { s with resetLow := false } p (by decide)).1 (hall p)
      exact ⟨hlink, hreq⟩
    · exact ((keeps_resetLow s false).mono (by simp)).trans (hkeeps.mono (by simp))
  · have hexec : exec (.prstRelease p) s = .next (s.setLink p { s.link p with prstLow := false }) :=
      congrArg Host.Outcome.next (if_neg (by simp [hhigh]))
    refine ⟨_, hexec, link_setLink_self s p _,
      fun q hq => link_setLink_of_ne s _ hq, keeps_setLink s p _⟩

end Sys2Proof.Machine
end

section
/-! The commands that name a handle: their checks, and what the lease commands do to their entry. -/

namespace Sys2Proof.Machine

/-! ### What each command hands on -/

section
variable {s : State} {p : Port} {tag : Byte} {h : RawHandle}

theorem exec_renewForm {n : Byte} (hlive : s.resetLow = false) (hin : InHandIs s p tag (.renew h n)) :
    exec (.renew p) s =
      .next (withHandle p .renew (decide (1 ≤ n.toNat ∧ n.toNat ≤ 8)) h (actRenew p n.toNat) s) := by
  have hexec : exec (.renew p) s = execRenew p s := rfl
  rw [hexec, execRenew, whenLive_live hlive, handed_inHand hin]

theorem exec_close (hlive : s.resetLow = false) (hin : InHandIs s p tag (.close h)) :
    exec (.close p) s = .next (withHandle p .close true h (actClose p) s) := by
  have hexec : exec (.close p) s = execClose p s := rfl
  rw [hexec, execClose, whenLive_live hlive, handed_inHand hin]

theorem exec_park (hlive : s.resetLow = false) (hin : InHandIs s p tag (.park h)) :
    exec (.park p) s = .next (withHandle p .park true h (actPark p) s) := by
  have hexec : exec (.park p) s = execPark p s := rfl
  rw [hexec, execPark, whenLive_live hlive, handed_inHand hin]

theorem exec_unpark (hlive : s.resetLow = false) (hin : InHandIs s p tag (.unpark h)) :
    exec (.unpark p) s = .next (withHandle p .unpark true h (actUnpark p) s) := by
  have hexec : exec (.unpark p) s = execUnpark p s := rfl
  rw [hexec, execUnpark, whenLive_live hlive, handed_inHand hin]

theorem exec_reshape {base count : BitVec 16} {cls : Byte} (hlive : s.resetLow = false)
    (hin : InHandIs s p tag (.reshape h base count cls)) :
    exec (.reshape p) s = .next (takeReshape p h base count cls s) := by
  have hexec : exec (.reshape p) s = execReshape p s := rfl
  rw [hexec, execReshape, whenLive_live hlive, handed_inHand hin]

theorem exec_status (hlive : s.resetLow = false) (hin : InHandIs s p tag (.status h)) :
    exec (.status p) s = .next (withHandle p .status true h (actStatus p) s) := by
  have hexec : exec (.status p) s = execStatus p s := rfl
  rw [hexec, execStatus, whenLive_live hlive, handed_inHand hin]

theorem exec_ackRevoke (hlive : s.resetLow = false) (hin : InHandIs s p tag (.ackRevoke h)) :
    exec (.ackRevoke p) s = .next (withHandle p .ackRevoke true h (actAckRevoke p) s) := by
  have hexec : exec (.ackRevoke p) s = execAckRevoke p s := rfl
  rw [hexec, execAckRevoke, whenLive_live hlive, handed_inHand hin]

theorem exec_revoke (hlive : s.resetLow = false) (hin : InHandIs s 0 tag (.revoke h)) :
    exec .revoke s = .next (withHandle 0 .revoke true h actRevoke s) := by
  have hexec : exec .revoke s = execRevoke s := rfl
  rw [hexec, execRevoke, whenLive_live hlive, supervisorPort, handed_inHand hin]

theorem exec_purgeHandle (hlive : s.resetLow = false) (hin : InHandIs s 0 tag (.purgeHandle h)) :
    exec .purgeHandle s = .next (withHandle 0 .purge true h actPurge s) := by
  have hexec : exec .purgeHandle s = execPurgeHandle s := rfl
  rw [hexec, execPurgeHandle, whenLive_live hlive, supervisorPort, handed_inHand hin]

/-! ### The checks -/

variable {cmd : HandleCommand} {ok : Bool} {act : EntryIx → Lease → State → State}

/-- R8, R10: an index or another argument out of range. -/
theorem withHandle_badArgument (hbad : indexOf 32 h.index = none ∨ ok = false) :
    withHandle p cmd ok h act s = respond p .badArgument [] s := by
  unfold withHandle
  split
  · rfl
  · next i hi => exact if_pos (hbad.resolve_left (by simp [hi]))

/-- R8: a FREE entry, or another generation. -/
theorem withHandle_stale {i : EntryIx} (hi : h.index.toNat = i.val)
    (hstale : s.lease i = none ∨ (s.entry i).generation ≠ h.generation) :
    withHandle p cmd true h act s = respond p .staleHandle [] s := by
  simp only [withHandle, indexOf_eq_some hi, Bool.true_eq_false, if_false]
  cases hl : s.lease i with
  | none => rfl
  | some l => exact if_pos (hstale.resolve_left (by simp [hl]))

section
variable {i : EntryIx} {l : Lease}

/-- R9: the command of another port than the holder. -/
theorem withHandle_notHolder (hnames : Names s h i l) (htests : cmd.testsHolder = true)
    (hholder : l.holder ≠ p) : withHandle p cmd true h act s = respond p .notHolder [] s := by
  obtain ⟨hi, hentry⟩ := hnames
  simp [withHandle, indexOf_eq_some hi, State.lease, hentry, htests, hholder]

/-- R10: a command that passes the holder test and that the state takes. -/
theorem withHandle_act (hnames : Names s h i l) (hholder : cmd.testsHolder = true → l.holder = p)
    (hcheck : cmd.check l.state = .taken) : withHandle p cmd true h act s = act i l s := by
  obtain ⟨hi, hentry⟩ := hnames
  have hpass : ¬ (cmd.testsHolder = true ∧ ¬ l.holder = p) := fun hn => hn.2 (hholder hn.1)
  simp [withHandle, indexOf_eq_some hi, State.lease, hentry, hpass, hcheck]

theorem withHandle_wrongState (hnames : Names s h i l) (hholder : cmd.testsHolder = true → l.holder = p)
    (hcheck : cmd.check l.state = .wrongState) :
    withHandle p cmd true h act s = respond p .wrongState l.state.refusalBytes s := by
  obtain ⟨hi, hentry⟩ := hnames
  have hpass : ¬ (cmd.testsHolder = true ∧ ¬ l.holder = p) := fun hn => hn.2 (hholder hn.1)
  simp [withHandle, indexOf_eq_some hi, State.lease, hentry, hpass, hcheck]

theorem withHandle_tooLate (hnames : Names s h i l) (hholder : cmd.testsHolder = true → l.holder = p)
    (hcheck : cmd.check l.state = .tooLate) :
    withHandle p cmd true h act s = respond p .tooLate l.state.refusalBytes s := by
  obtain ⟨hi, hentry⟩ := hnames
  have hpass : ¬ (cmd.testsHolder = true ∧ ¬ l.holder = p) := fun hn => hn.2 (hholder hn.1)
  simp [withHandle, indexOf_eq_some hi, State.lease, hentry, hpass, hcheck]

end

/-- R67: the checks of a RESHAPE, whose window and class are looked at with its handle. -/
theorem takeReshape_checked (p : Port) (h : RawHandle) (base count : BitVec 16) (cls : Byte) (s : State) :
    ∃ act, takeReshape p h base count cls s =
      withHandle p .reshape ((windowOf 256 base count).isSome && (classOf cls).isSome) h act s := by
  unfold takeReshape
  split
  · next w k hw hk => exact ⟨actReshape p w k, by simp [hw, hk]⟩
  · next hnone =>
    refine ⟨fun _ _ s => s, (withHandle_badArgument (.inr ?_)).symm⟩
    cases hw : windowOf 256 base count with
    | none => rfl
    | some w =>
      cases hk : classOf cls with
      | none => rfl
      | some k => exact absurd hk (hnone w k hw)

/-- R8 to R10: every command that names a handle goes through the four checks. -/
theorem exec_handleForm {r : Request} {c : Instr} (hlive : s.resetLow = false) (hin : InHandIs s p tag r)
    (hsent : SentBy p r) (hform : handleFormOf r = some (cmd, h, ok)) (hrow : rowOf p r = some c) :
    ∃ act, exec c s = .next (withHandle p cmd ok h act s) := by
  cases r with
  | renew h n =>
    cases hform
    cases hrow
    exact ⟨_, exec_renewForm hlive hin⟩
  | close h =>
    cases hform
    cases hrow
    exact ⟨_, exec_close hlive hin⟩
  | park h =>
    cases hform
    cases hrow
    exact ⟨_, exec_park hlive hin⟩
  | unpark h =>
    cases hform
    cases hrow
    exact ⟨_, exec_unpark hlive hin⟩
  | reshape h base count cls =>
    cases hform
    cases hrow
    obtain ⟨act, hact⟩ := takeReshape_checked p h base count cls s
    exact ⟨act, (exec_reshape hlive hin).trans (congrArg _ hact)⟩
  | status h =>
    cases hform
    cases hrow
    exact ⟨_, exec_status hlive hin⟩
  | ackRevoke h =>
    cases hform
    cases hrow
    exact ⟨_, exec_ackRevoke hlive hin⟩
  | revoke h =>
    cases hform
    cases hrow
    obtain rfl : p = 0 := hsent rfl
    exact ⟨_, exec_revoke hlive hin⟩
  | purgeHandle h =>
    cases hform
    cases hrow
    obtain rfl : p = 0 := hsent rfl
    exact ⟨_, exec_purgeHandle hlive hin⟩
  | _ => simp [handleFormOf] at hform

end

/-- R170: a command that its block answers and otherwise leaves alone. -/
theorem exec_refused {s : State} {p : Port} {tag : Byte} {r : Request} {c : Instr} {st : Status}
    {res : List Byte} (hin : InHandIs s p tag r) (h : exec c s = .next (respond p st res s)) :
    ∃ t, exec c s = .next t ∧ Answered p tag st res s t ∧ KeepsAllBut [.links] s t :=
  ⟨_, h, respond_answered hin st res, respond_keeps p st res s⟩

/-- R8: a byte above 1FH names no entry. -/
theorem indexOf_eq_none {n : Nat} {b : Byte} (h : n ≤ b.toNat) : indexOf n b = none := by
  simp [indexOf, h]

/-- Settles O21. -/
theorem invalidHandleIsRefused : Obligations.InvalidHandleIsRefused := by
  intro s p tag r cmd h ok c hlive hin hsent hform hrow
  obtain ⟨act, hexec⟩ := exec_handleForm hlive hin hsent hform hrow
  refine ⟨fun hbad => exec_refused hin ?_, fun i hi hok hstale => exec_refused hin ?_⟩
  · rw [hexec, withHandle_badArgument (hbad.imp_left indexOf_eq_none)]
  · subst hok
    rw [hexec, withHandle_stale hi hstale]

theorem HandleCommand.testsHolder_iff {cmd : HandleCommand} :
    cmd.testsHolder = true ↔ cmd ≠ .revoke ∧ cmd ≠ .purge := by
  cases cmd <;> simp [HandleCommand.testsHolder]

/-- Settles O22. -/
theorem holderAndStateChecksRefuse : Obligations.HolderAndStateChecksRefuse := by
  refine ⟨fun s p tag r cmd h c i l hlive hin hsent hform hrow hnames => ?_,
    fun a b x => ⟨rfl, rfl, rfl, rfl, rfl, rfl, rfl, rfl, rfl⟩⟩
  obtain ⟨act, hexec⟩ := exec_handleForm hlive hin hsent hform hrow
  refine ⟨fun hrevoke hpurge hholder => exec_refused hin ?_, fun hpass => ?_⟩
  · rw [hexec, withHandle_notHolder hnames (HandleCommand.testsHolder_iff.mpr ⟨hrevoke, hpurge⟩) hholder]
  · have hholder : cmd.testsHolder = true → l.holder = p := fun ht => by
      obtain ⟨hr, hp⟩ := HandleCommand.testsHolder_iff.mp ht
      exact (hpass.resolve_left hr).resolve_left hp
    exact ⟨fun hcheck => exec_refused hin (hexec.trans (congrArg _ (withHandle_wrongState hnames hholder hcheck))),
      fun hcheck => exec_refused hin (hexec.trans (congrArg _ (withHandle_tooLate hnames hholder hcheck)))⟩

/-! ### A command that changes its entry and is answered -/

/-- The lease of an entry changes. -/
theorem entryBecomes_setLease {s : State} {i : EntryIx} {g : Byte} {l : Option Lease}
    (h : s.entry i = { generation := g, lease := l }) (m : Option Lease) :
    EntryBecomes i { generation := g, lease := m } s (s.setLease i m) :=
  ⟨by simp [State.setLease, h], fun j hj => by simp [State.setLease, hj]⟩

/-- R170: the lease of an entry changes, and the command in hand is answered. -/
theorem setLease_respond {s : State} {p : Port} {tag : Byte} {r : Request} {i : EntryIx} {g : Byte}
    {l : Option Lease} (hin : InHandIs s p tag r) (h : s.entry i = { generation := g, lease := l })
    (m : Option Lease) (st : Status) (res : List Byte) :
    EntryBecomes i { generation := g, lease := m } s (respond p st res (s.setLease i m)) ∧
      Answered p tag st res s (respond p st res (s.setLease i m)) ∧
      KeepsAllBut [.directory, .links] s (respond p st res (s.setLease i m)) := by
  have hset : KeepsAllBut [.directory] s (s.setLease i m) := keeps_setLease s i m
  have hres := respond_keeps p st res (s.setLease i m)
  have hin' : InHandIs (s.setLease i m) p tag r := by rw [InHandIs, hset.link]; exact hin
  obtain ⟨hself, hbut⟩ := entryBecomes_setLease h m
  obtain ⟨hlink, hlinks⟩ := respond_answered hin' st res
  exact ⟨⟨(hres.entry i).trans hself, fun j hj => (hres.entry j).trans (hbut j hj)⟩,
    ⟨hlink.trans (by rw [hset.link]), fun q hq => (hlinks q hq).trans (hset.link q)⟩,
    (hset.mono (by simp)).trans (hres.mono (by simp))⟩

/-- Settles O33. -/
theorem renewRaisesTheBalance : Obligations.RenewRaisesTheBalance := by
  intro s p tag h n i l hlive hin hnames hholder hstate hlow hhigh hsum
  have hact : actRenew p n.toNat i l s = respond p .ok (renewBytes (l.balance + n.toNat) l)
      (s.setLease i (some { l with balance := l.balance + n.toNat })) := if_pos hsum
  refine ⟨_, ?_, setLease_respond hin hnames.2 _ _ _⟩
  rw [exec_renew hlive hin hlow hhigh,
    withHandle_taken hnames hholder (check_renew_eq_taken_iff.mpr hstate), hact]
  rfl

/-! ### A write stalled under an entry (R122) -/

section
variable {s : State} {i : EntryIx} {r : FaultReason}

theorem refuseStalledUnder_of_notStalled (h : NotStalledUnder s i) : refuseStalledUnder i r s = s := by
  unfold refuseStalledUnder
  split
  · rfl
  · next w hw => exact if_neg (h w hw)

theorem refuseStalledUnder_of_stalled {w : PostedWrite} (hw : s.stalled = some w)
    (hi : w.handle.index = i) : refuseStalledUnder i r s = refuseStalled r s := by
  simp [refuseStalledUnder, hw, hi]

/-- R122: what the refusal of the stalled write does. -/
theorem refuseStalled_some {w : PostedWrite} (hw : s.stalled = some w) :
    refuseStalled r s = answerBus (.error []) (enterFault w.port (w.fault r) { s with stalled := none }) := by
  simp [refuseStalled, hw]

theorem refuseStalled_refused {w : PostedWrite} (hw : s.stalled = some w) :
    (refuseStalled r s).stalled = none ∧
      (refuseStalled r s).answer = some { acks := 0, ierr := true, words := [] } ∧
      FaultEntered w.port (w.fault r) s (refuseStalled r s) ∧
      KeepsAllBut [.links, .stalled, .answer] s (refuseStalled r s) := by
  refine ⟨refuseStalled_stalled r s, ?_, ?_, refuseStalled_keeps r s⟩
  · rw [refuseStalled_some hw]; rfl
  · obtain ⟨hlink, hbut⟩ := enterFault_entered w.port (w.fault r) { s with stalled := none }
    rw [refuseStalled_some hw]
    exact ⟨hlink, hbut⟩

/-- R122: the refusal of a write stalled under an entry. -/
theorem stalledRefused_refuseStalledUnder (i : EntryIx) (r : FaultReason) (s : State) :
    StalledRefused i r s (refuseStalledUnder i r s) := by
  refine ⟨refuseStalledUnder_of_notStalled, fun w hw hi => ?_⟩
  rw [refuseStalledUnder_of_stalled hw hi]
  exact refuseStalled_refused hw

/-- R122: the refusal enters a fault at most. -/
theorem link_refuseStalled (r : FaultReason) (s : State) (p : Port) :
    (refuseStalled r s).link p = { s.link p with fault := ((refuseStalled r s).link p).fault } := by
  cases hw : s.stalled with
  | none => simp [refuseStalled, hw]
  | some w =>
    obtain ⟨-, -, ⟨hself, hbut⟩, -⟩ := refuseStalled_refused (r := r) hw
    by_cases hp : p = w.port
    · rw [hp, hself]
    · rw [hbut p hp]

theorem link_refuseStalledUnder (i : EntryIx) (r : FaultReason) (s : State) (p : Port) :
    (refuseStalledUnder i r s).link p =
      { s.link p with fault := ((refuseStalledUnder i r s).link p).fault } := by
  by_cases h : NotStalledUnder s i
  · rw [refuseStalledUnder_of_notStalled h]
  · obtain ⟨w, hw, hi⟩ : ∃ w, s.stalled = some w ∧ w.handle.index = i := by
      simpa [NotStalledUnder] using h
    rw [refuseStalledUnder_of_stalled hw hi]
    exact link_refuseStalled r s p

theorem inHandIs_refuseStalledUnder {p : Port} {tag : Byte} {q : Request} (h : InHandIs s p tag q) :
    InHandIs (refuseStalledUnder i r s) p tag q := by
  rw [InHandIs, link_refuseStalledUnder]; exact h

theorem entry_refuseStalledUnder (j : EntryIx) : (refuseStalledUnder i r s).entry j = s.entry j :=
  (refuseStalledUnder_keeps i r s).entry j

end

/-! ### PARK, UNPARK and CLOSE -/

/-- Settles O36. -/
theorem parkAndUnparkChangeTheState : Obligations.ParkAndUnparkChangeTheState := by
  intro s p tag h i l hlive hnames hholder
  refine ⟨fun hin hstate => ⟨refuseStalledUnder i .leaseParked s, _,
      stalledRefused_refuseStalledUnder i _ s, ?_, setLease_respond (inHandIs_refuseStalledUnder hin)
        ((entry_refuseStalledUnder i).trans hnames.2) _ _ _⟩,
    fun hin hstate => ⟨_, ?_, setLease_respond hin hnames.2 _ _ _⟩⟩
  · rw [exec_park hlive hin, withHandle_taken hnames hholder (by rw [hstate]; rfl)]
    rfl
  · rw [exec_unpark hlive hin, withHandle_taken hnames hholder (by rw [hstate]; rfl)]
    rfl

theorem Lease.beginDrain_of_zero {l : Lease} (h : l.outstanding = 0) (st : LeaseState) :
    l.beginDrain st = (l.movedTo st).drained := if_pos h

theorem Lease.beginDrain_of_ne {l : Lease} (h : l.outstanding ≠ 0) (st : LeaseState) :
    l.beginDrain st = some (l.movedTo st) := if_neg h

/-- R10: CLOSE is taken in HELD and in PARKED. -/
theorem check_close_of_heldOrParked {st : LeaseState} (h : st = .held ∨ st = .parked) :
    HandleCommand.check .close st = .taken := by
  rcases h with rfl | rfl <;> rfl

/-- R79: REVOKE is taken in HELD and in PARKED. -/
theorem check_revoke_of_heldOrParked {st : LeaseState} (h : st = .held ∨ st = .parked) :
    HandleCommand.check .revoke st = .taken := by
  rcases h with rfl | rfl <;> rfl

/-- R73: the CLOSE in hand stays there with the count it found. -/
theorem link_holdClose_self {s : State} {p : Port} {tag : Byte} {r : Request} (hin : InHandIs s p tag r)
    (i : EntryIx) (n : Nat) : (holdClose p i n s).link p = { s.link p with
      link := .command { tag := tag, request := r, closing := some { index := i, found := n } } } := by
  unfold holdClose
  rw [hin]
  simp

theorem holdClose_linksBut (p : Port) (i : EntryIx) (n : Nat) (s : State) :
    LinksBut p s (holdClose p i n s) := by
  intro q hq
  unfold holdClose
  split
  · exact link_setLink_of_ne s _ hq
  · rfl

/-- R74: a CLOSE with nothing outstanding. -/
theorem actClose_free {l : Lease} (h : l.outstanding = 0) (p : Port) (i : EntryIx) (s : State) :
    actClose p i l s =
      scan (respond p .ok [0x00, 0x00] ((refuseStalledUnder i .leaseRetiring s).setLease i none)) := by
  have hgone : l.beginDrain .closing = none := Lease.beginDrain_of_zero h _
  simp [actClose, h, hgone]

/-- R73: a CLOSE that waits in hand. -/
theorem actClose_drain {l : Lease} (h : l.outstanding ≠ 0) (p : Port) (i : EntryIx) (s : State) :
    actClose p i l s = holdClose p i l.outstanding
      ((refuseStalledUnder i .leaseRetiring s).setLease i (some (l.movedTo .closing))) := by
  simp [actClose, h, Lease.beginDrain_of_ne h]

/-- Settles O35. -/
theorem closeFreesOrDrains : Obligations.CloseFreesOrDrains := by
  intro s p tag h i l hlive hin hnames hholder hstate
  let v := refuseStalledUnder i .leaseRetiring s
  have hin' : InHandIs v p tag (.close h) := inHandIs_refuseStalledUnder hin
  have hentry : v.entry i = { generation := h.generation, lease := some l } :=
    (entry_refuseStalledUnder i).trans hnames.2
  have hexec : exec (.close p) s = .next (actClose p i l s) := by
    rw [exec_close hlive hin, withHandle_taken hnames hholder (check_close_of_heldOrParked hstate)]
  refine ⟨v, stalledRefused_refuseStalledUnder i _ s, fun h0 => ⟨_, ?_, setLease_respond hin' hentry none .ok _⟩,
    fun h0 => ⟨_, hexec.trans (congrArg _ (actClose_drain h0 p i s)), ?_⟩⟩
  · rw [hexec, actClose_free h0]
  · have hset : KeepsAllBut [.directory] v (v.setLease i (some (l.movedTo .closing))) := keeps_setLease v i _
    have hhold := holdClose_keeps p i l.outstanding (v.setLease i (some (l.movedTo .closing)))
    have hin2 : InHandIs (v.setLease i (some (l.movedTo .closing))) p tag (.close h) := by
      rw [InHandIs, hset.link]; exact hin'
    obtain ⟨hself, hbut⟩ := entryBecomes_setLease hentry (some (l.movedTo .closing))
    refine ⟨⟨(hhold.entry i).trans hself, fun j hj => (hhold.entry j).trans (hbut j hj)⟩, ?_,
      fun q hq => (holdClose_linksBut p i _ _ q hq).trans (hset.link q),
      (hset.mono (by simp)).trans (hhold.mono (by simp))⟩
    rw [link_holdClose_self hin2, hset.link]

/-! ### RESHAPE -/

/-- R70: a claim conflicts with another occupying entry. -/
theorem conflictsOccupying_some_iff {s : State} {i : EntryIx} {c : Claim} :
    s.conflictsOccupying (some i) c = true ↔
      ∃ j m, j ≠ i ∧ s.lease j = some m ∧ m.occupying = true ∧ m.claim.conflicts c = true := by
  simp only [State.conflictsOccupying, List.any_eq_true, mem_allEntries, true_and, Bool.and_eq_true,
    Option.any_eq_true, bne_iff_ne, ne_eq, Option.some.injEq]
  constructor
  · rintro ⟨j, hj, m, hm, ho, hc⟩; exact ⟨j, m, hj, hm, ho, hc⟩
  · rintro ⟨j, m, hj, hm, ho, hc⟩; exact ⟨j, hj, m, hm, ho, hc⟩

/-- Settles O37. -/
theorem reshapeMovesAParkedLease : Obligations.ReshapeMovesAParkedLease := by
  intro s p tag h base count cls i l w c span hlive hin hnames hholder hstate hw hc hspan claim conflict
    refused
  have hconflict : s.conflictsOccupying (some i) claim = true ↔ conflict := conflictsOccupying_some_iff
  have hexec : exec (.reshape p) s = .next (actReshape p w c i l s) := by
    rw [exec_reshape hlive hin, takeReshape, hw, hc]
    exact congrArg _ (withHandle_taken hnames hholder (by rw [hstate]; rfl))
  have hany : (s.span l.claim.target).any w.inside = w.inside span := by rw [hspan]; rfl
  rw [← hconflict]
  refine ⟨fun hout => exec_refused hin ?_, fun hout hin' => exec_refused hin ?_,
    fun hout hin' hcon => exec_refused hin ?_,
    fun hout hin' hcon => ⟨_, ?_, setLease_respond hin hnames.2 (some { l with claim := claim }) .ok _⟩⟩
  · rw [hexec, actReshape, if_pos hout]
  · rw [hexec, actReshape, if_neg (not_not.mpr hout), if_pos (hany.trans hin')]
  · rw [hexec, actReshape, if_neg (not_not.mpr hout), if_neg (by simp [hany, hin']), if_pos hcon]
  · rw [hexec, actReshape, if_neg (not_not.mpr hout), if_neg (by simp [hany, hin']), if_neg hcon]
    rfl

end Sys2Proof.Machine
end

section
/-! Tombstones, revocation, the term boundary and the ends of a drain. -/

namespace Sys2Proof.Machine

/-! ### Tombstones -/

/-- R35: a scan leaves a command in hand where it is. -/
theorem inHandIs_scan {s : State} {p : Port} {tag : Byte} {r : Request} (h : InHandIs s p tag r) :
    InHandIs (scan s) p tag r := by
  rw [InHandIs, scan_link]; exact h

theorem inHandIs_scanIf {s : State} {p : Port} {tag : Byte} {r : Request} (b : Bool) (h : InHandIs s p tag r) :
    InHandIs (scanIf b s) p tag r := by
  unfold scanIf
  split
  · exact inHandIs_scan h
  · exact h

theorem InHandIs.of_keeps {may : List Part} {s t : State} {p : Port} {tag : Byte} {r : Request}
    (h : InHandIs s p tag r) (hk : KeepsAllBut may s t) (hp : .links ∉ may := by decide) :
    InHandIs t p tag r := by
  rw [InHandIs, hk.link p hp]; exact h

/-- R86: a purge frees the tombstones of its port. -/
theorem Entry.purged_eq (p : Port) (e : Entry) : e.purged p =
    { generation := e.generation, lease := e.lease.filter fun l => !l.isTombstoneOf p } := by
  unfold Entry.purged
  split
  · next l hl =>
    split
    · next ht => simp [hl, Option.filter, ht]
    · next ht => simp only [hl, Option.filter, ht, Bool.not_false, if_true]; exact Entry.eq_of rfl hl
  · next hl => simp only [hl]; exact Entry.eq_of rfl hl

theorem exec_purgePort {s : State} {tag port : Byte} (hlive : s.resetLow = false)
    (hin : InHandIs s 0 tag (.purgePort port)) : exec .purgePort s = .next (takePurgePort port s) := by
  have hexec : exec .purgePort s = execPurgePort s := rfl
  rw [hexec, execPurgePort, whenLive_live hlive, supervisorPort, handed_inHand hin]

/-- R86: the directory after a purge of the port's tombstones. -/
def State.purged (s : State) (p : Port) : State := { s with entries := vmap (Entry.purged p) s.entries }

theorem entry_purged (s : State) (p : Port) (i : EntryIx) : (s.purged p).entry i =
    { generation := (s.entry i).generation, lease := (s.lease i).filter fun l => !l.isTombstoneOf p } :=
  (getElem_vmap (Entry.purged p) s.entries i).trans (Entry.purged_eq p _)

theorem purged_keeps (s : State) (p : Port) : KeepsAllBut [.directory] s (s.purged p) := keeps_entries s _

/-- R86: a scan follows a purge that freed a tombstone. -/
theorem scanIf_pos_count (n : Nat) (s : State) :
    scanIf (decide (0 < n)) s = if n = 0 then s else scan s := by
  by_cases h : n = 0
  · simp [scanIf, h]
  · simp [scanIf, h, Nat.pos_of_ne_zero h]

/-- Settles O38. -/
theorem tombstonesAreFreed : Obligations.TombstonesAreFreed := by
  refine ⟨fun s p tag h i l r hlive hnames hstate => ⟨fun hin hholder => ?_, fun hin => ?_⟩,
    fun s tag port hlive hin => ⟨fun hport => ?_, fun p hport => ?_⟩⟩
  · refine ⟨_, ?_, setLease_respond hin hnames.2 none .ok [r.code, l.marks.byte]⟩
    rw [exec_ackRevoke hlive hin, withHandle_taken hnames hholder (by rw [hstate]; rfl), actAckRevoke, hstate]
    rfl
  · refine ⟨_, ?_, setLease_respond hin hnames.2 none .ok [byteOf l.holder, r.code]⟩
    rw [exec_purgeHandle hlive hin, withHandle_act hnames (by simp [HandleCommand.testsHolder])
      (by rw [hstate]; rfl), actPurge, hstate]
    rfl
  · refine exec_refused hin ?_
    rw [exec_purgePort hlive hin, takePurgePort, indexOf_eq_none hport]
    rfl
  · intro n
    have hin' : InHandIs (if n = 0 then s.purged p else scan (s.purged p)) 0 tag (.purgePort port) := by
      have h1 := hin.of_keeps (purged_keeps s p)
      split
      · exact h1
      · exact inHandIs_scan h1
    refine ⟨s.purged p, respond 0 .ok [port, byteOf n] (if n = 0 then s.purged p else scan (s.purged p)), ?_,
      entry_purged s p, purged_keeps s p, respond_answered hin' _ _, respond_keeps _ _ _ _⟩
    rw [exec_purgePort hlive hin, takePurgePort, indexOf_eq_some hport]
    dsimp only
    rw [scanIf_pos_count]
    rfl

/-! ### Revocation -/

/-- R77: a lease with nothing outstanding goes to a tombstone at once. -/
theorem Lease.revoke_of_zero {l : Lease} {r : RevokeReason} (h : l.outstanding = 0) (hr : r ≠ .portReset) :
    l.revoke r = some (l.tombstone r) := by
  have hdrain : l.revoke r = (l.movedTo (.revoking r false)).drained := Lease.beginDrain_of_zero h _
  rw [hdrain]
  simp [Lease.drained, hr]

/-- R77: a lease with accesses outstanding drains. -/
theorem Lease.revoke_of_ne {l : Lease} (h : l.outstanding ≠ 0) (r : RevokeReason) :
    l.revoke r = some (l.movedTo (.revoking r false)) := Lease.beginDrain_of_ne h _

section
variable {s : State} {i : EntryIx} {g : Byte} {l : Lease} {r : RevokeReason}

/-- R77, R122: a revocation acts on what the refusal of a stalled write leaves. -/
theorem entryBecomes_revokeEntry (h : s.entry i = { generation := g, lease := some l }) (m : Lease) :
    EntryBecomes i { generation := g, lease := m.revoke r } (refuseStalledUnder i .leaseRetiring s)
      (revokeEntry i r m s) :=
  entryBecomes_setLease ((entry_refuseStalledUnder i).trans h) _

theorem revokeEntry_keepsAfter (m : Lease) :
    KeepsAllBut [.directory] (refuseStalledUnder i .leaseRetiring s) (revokeEntry i r m s) :=
  keeps_setLease _ i _

end

/-- Settles O40. -/
theorem revokeEndsALiveLease : Obligations.RevokeEndsALiveLease := by
  intro s tag h i l hlive hin hnames hstate
  have hexec : exec .revoke s = .next (actRevoke i l s) := by
    rw [exec_revoke hlive hin, withHandle_act hnames (by simp [HandleCommand.testsHolder])
      (check_revoke_of_heldOrParked hstate)]
  have hin' : InHandIs (revokeEntry i .supervisor l s) 0 tag (.revoke h) :=
    (inHandIs_refuseStalledUnder hin).of_keeps (revokeEntry_keepsAfter (s := s) l)
  have hbecomes := entryBecomes_revokeEntry (r := .supervisor) hnames.2 l
  refine ⟨_, stalledRefused_refuseStalledUnder i .leaseRetiring s, fun h0 => ?_, fun h0 => ?_⟩
  · rw [Lease.revoke_of_zero h0 (by simp)] at hbecomes
    refine ⟨revokeEntry i .supervisor l s, respond 0 .ok [byteOf l.holder, 0x05, 0x00]
      (scan (revokeEntry i .supervisor l s)), ?_, hbecomes, revokeEntry_keepsAfter l,
      respond_answered (inHandIs_scan hin') _ _, respond_keeps _ _ _ _⟩
    rw [hexec, actRevoke, revokeBytes, h0]
    rfl
  · rw [Lease.revoke_of_ne h0] at hbecomes
    have hres := respond_keeps 0 .ok [byteOf l.holder, 0x04, byteOf l.outstanding] (revokeEntry i .supervisor l s)
    obtain ⟨hself, hbut⟩ := hbecomes
    obtain ⟨hlink, hlinks⟩ := respond_answered hin' .ok [byteOf l.holder, 0x04, byteOf l.outstanding]
    have hkeep := revokeEntry_keepsAfter (s := s) (i := i) (r := .supervisor) l
    refine ⟨_, ?_, ⟨(hres.entry i).trans hself, fun j hj => (hres.entry j).trans (hbut j hj)⟩,
      ⟨hlink.trans (by rw [hkeep.link]), fun q hq => (hlinks q hq).trans (hkeep.link q)⟩,
      (hkeep.mono (by simp)).trans (hres.mono (by simp))⟩
    rw [hexec, actRevoke, revokeBytes, if_neg h0, scanIf, if_neg (by simp [h0])]
    rfl

/-! ### DIRECTORY_CLEAR -/

theorem exec_directoryClear {s : State} {tag : Byte} (hlive : s.resetLow = false)
    (hin : InHandIs s 0 tag .directoryClear) : exec .directoryClear s = .next (takeDirectoryClear s) := by
  have hexec : exec .directoryClear s = execDirectoryClear s := rfl
  rw [hexec, execDirectoryClear, whenLive_live hlive, supervisorPort, handed_inHand hin]

/-- R34: there is nothing to grant on an empty wait list. -/
theorem scan_of_empty {s : State} (h : s.waitList = []) : scan s = s := by
  unfold scan
  rw [h, scanFrom, List.reverse_nil, ← h]

/-- R81: what the revocation of all leases makes of an entry. -/
theorem Entry.cleared_of_live {e : Entry} {l : Lease} (hl : e.lease = some l) (hp : HeldOrParked l) :
    e.cleared = { e with lease := some (if l.outstanding = 0 then l.tombstone .cleared
      else l.movedTo (.revoking .cleared false)) } := by
  have hrun : l.running = true := running_iff.mpr hp
  simp only [Entry.cleared, hl, hrun, if_true]
  by_cases h0 : l.outstanding = 0
  · rw [Lease.revoke_of_zero h0 (by simp), if_pos h0]
  · rw [Lease.revoke_of_ne h0, if_neg h0]

theorem Entry.cleared_of_not {e : Entry} (h : ∀ l, e.lease = some l → ¬ HeldOrParked l) : e.cleared = e := by
  unfold Entry.cleared
  split
  · next l hl => exact if_neg fun hr => h l hl (running_iff.mp hr)
  · rfl

theorem Entry.generation_cleared (e : Entry) : e.cleared.generation = e.generation := by
  unfold Entry.cleared
  split
  · split <;> rfl
  · rfl

/-- R81: a DIRECTORY_CLEAR before its answer. -/
def clearMade (s : State) : State :=
  refuseWaiters (fun _ => true) .cleared
    { refuseStalledCleared s with entries := vmap Entry.cleared (refuseStalledCleared s).entries }

section
variable (s : State)

theorem clearMade_keeps :
    KeepsAllBut [.directory, .waitList, .links] (refuseStalledCleared s) (clearMade s) :=
  ((keeps_entries _ _).mono (by simp)).trans ((refuseWaiters_keeps _ _ _).mono (by simp))

theorem waitList_clearMade : (clearMade s).waitList = [] := by
  unfold clearMade
  rw [waitList_refuseWaiters]
  simp

theorem takeDirectoryClear_eq : takeDirectoryClear s = respond 0 .ok (clearBytes s) (clearMade s) := by
  rw [← scan_of_empty (waitList_clearMade s)]
  rfl

theorem entry_clearMade (i : EntryIx) : (clearMade s).entry i = (s.entry i).cleared := by
  have hcleared := getElem_vmap Entry.cleared (refuseStalledCleared s).entries i
  have hsame : (refuseStalledCleared s).entry i = s.entry i := (refuseStalledCleared_keeps s).entry i
  rw [← hsame]
  exact ((refuseWaiters_keeps _ _ _).entry i).trans hcleared

theorem link_refuseStalledCleared (p : Port) : (refuseStalledCleared s).link p =
    { s.link p with fault := ((refuseStalledCleared s).link p).fault } := by
  unfold refuseStalledCleared
  split
  · rfl
  · split
    · exact link_refuseStalled _ s p
    · rfl

theorem link_clearMade (p : Port) : (clearMade s).link p =
    { (refuseStalledCleared s).link p with tickets := ((clearMade s).link p).tickets } :=
  link_refuseWaiters _ _ _ p

theorem ticket_clearMade (p : Port) (k : Slot) : (clearMade s).ticket p k =
    if 0 < s.waitersOf p k then .refused .cleared else s.ticket p k := by
  have hticket : (refuseStalledCleared s).ticket p k = s.ticket p k := by
    rw [State.ticket, link_refuseStalledCleared]; rfl
  have hwaits : (refuseStalledCleared s).waitList = s.waitList := (refuseStalledCleared_keeps s).waitList
  unfold clearMade
  rw [ticket_refuseWaiters]
  change (if (refuseStalledCleared s).waitList.any _ then _ else (refuseStalledCleared s).ticket p k) = _
  rw [hticket, hwaits]
  simp [State.waitersOf, List.countP_pos_iff]

end

/-- Settles O39. -/
theorem directoryClearRevokesAndEmpties : Obligations.DirectoryClearRevokesAndEmpties := by
  intro s tag hlive hin live
  have hlinkv : ∀ p, ((refuseStalledCleared s).link p).link = (s.link p).link := fun p => by
    rw [link_refuseStalledCleared]
  have hmade : ∀ p, ((clearMade s).link p).link = (s.link p).link := fun p => by
    rw [link_clearMade]; exact hlinkv p
  have hres := respond_keeps 0 .ok (clearBytes s) (clearMade s)
  have hentry : ∀ i, (respond 0 .ok (clearBytes s) (clearMade s)).entry i = (s.entry i).cleared :=
    fun i => (hres.entry i).trans (entry_clearMade s i)
  have hstay : ∀ i, (∀ l, s.lease i = some l → ¬ HeldOrParked l) →
      (respond 0 .ok (clearBytes s) (clearMade s)).lease i = s.lease i := fun i h => by
    rw [State.lease, hentry, Entry.cleared_of_not h]; rfl
  obtain ⟨hlink, hlinks⟩ := respond_answered (s := clearMade s) ((hmade 0).trans hin) .ok (clearBytes s)
  refine ⟨refuseStalledCleared s, respond 0 .ok (clearBytes s) (clearMade s), ?_, fun hno => ?_,
    fun w hw hlivew => ?_, fun i => ⟨?_, fun l hl hp => ?_, fun l hl hp => ?_, fun hl => ?_⟩, ?_,
    fun p k => ?_, fun p => ?_, ?_⟩
  · rw [exec_directoryClear hlive hin, takeDirectoryClear_eq]
  · unfold refuseStalledCleared
    split
    · rfl
    · next w hw =>
      refine if_neg fun hr => hno w hw ?_
      obtain ⟨l, hl, hrun⟩ := Option.any_eq_true _ _ |>.mp hr
      exact ⟨l, hl, running_iff.mp hrun⟩
  · obtain ⟨l, hl, hp⟩ := hlivew
    have hrefuse : refuseStalledCleared s = refuseStalled .leaseRetiring s := by
      simp [refuseStalledCleared, hw, hl, running_iff.mpr hp]
    refine ⟨fun hnot => absurd rfl (hnot w hw), fun w' hw' _ => ?_⟩
    rw [hrefuse]
    exact refuseStalled_refused hw'
  · rw [hentry, Entry.generation_cleared]
  · rw [State.lease, hentry, Entry.cleared_of_live hl hp]
  · exact (hstay i fun m hm => by rw [Option.some.inj (hm.symm.trans hl)]; exact hp).trans hl
  · exact (hstay i fun m hm => by rw [hl] at hm; cases hm).trans hl
  · exact hres.waitList.trans (waitList_clearMade s)
  · exact (sameTickets_respond 0 .ok (clearBytes s) (clearMade s) p k).trans (ticket_clearMade s p k)
  · by_cases hp : p = 0
    · subst hp
      rw [hlink, link_clearMade]
      rfl
    · rw [hlinks p hp, link_clearMade, if_neg hp, ← hlinkv p]
  · exact (clearMade_keeps s).trans (hres.mono (by simp))

/-! ### The term boundary -/

section
variable {s : State} {i : EntryIx} {g : Byte} {l : Lease}

theorem exec_termBoundary (hlive : s.resetLow = false) (i : EntryIx) :
    exec (.termBoundary i) s = .next (takeBoundary i s) := whenLive_live hlive _

/-- R50: a boundary above -8 draws one unit. -/
theorem takeBoundary_draws (hl : s.lease i = some l) (hdue : l.boundaryDue = true) (hstate : l.state = .held)
    (hbal : -8 < l.balance) :
    takeBoundary i s = s.setLease i (some (l.drawn (s.settings l.claim.target).term)) := by
  simp [takeBoundary, hl, hdue, hstate, hbal]

/-- R52: a boundary at -8 revokes. -/
theorem takeBoundary_revokes (hl : s.lease i = some l) (hdue : l.boundaryDue = true)
    (hstate : l.state = .held) (hbal : l.balance ≤ -8) : takeBoundary i s =
      scanIf (decide (l.outstanding = 0)) (revokeEntry i .expired { l with interval := 0 } s) := by
  simp [takeBoundary, hl, hdue, hstate, not_lt.mpr hbal]

/-- R53: a boundary of a PARKED lease. -/
theorem takeBoundary_parked (hl : s.lease i = some l) (hdue : l.boundaryDue = true)
    (hstate : l.state = .parked) : takeBoundary i s =
      s.setLease i (some { l with interval := (s.settings l.claim.target).term, boundaryDue := false }) := by
  simp [takeBoundary, hl, hdue, hstate]

theorem lease_of_entry (h : s.entry i = { generation := g, lease := some l }) : s.lease i = some l := by
  rw [State.lease, h]

end

/-- Settles O47. -/
theorem boundaryDrawsOrRevokes : Obligations.BoundaryDrawsOrRevokes := by
  intro s i g l hlive hentry hdue hstate
  have hl := lease_of_entry hentry
  refine ⟨fun hbal => ⟨_, (exec_termBoundary hlive i).trans (congrArg _ (takeBoundary_draws hl hdue hstate hbal)),
    ?_, keeps_setLease s i _⟩, fun hbal => ⟨_, stalledRefused_refuseStalledUnder i .leaseRetiring s, ?_⟩⟩
  · have hmark : (l.marks.expiryNear || decide (l.balance - 1 = -6)) =
        if l.balance = -5 then true else l.marks.expiryNear := by
      have hiff : l.balance - 1 = -6 ↔ l.balance = -5 := by omega
      by_cases h : l.balance = -5 <;> simp [hiff, h]
    rw [← hmark]
    exact entryBecomes_setLease hentry _
  · have hexec := (exec_termBoundary hlive i).trans
      (congrArg _ (takeBoundary_revokes hl hdue hstate hbal))
    have hbecomes := entryBecomes_revokeEntry (r := .expired) hentry { l with interval := 0 }
    refine ⟨fun h0 => ⟨_, ?_, (Lease.revoke_of_ne (l := { l with interval := 0 }) h0 .expired) ▸ hbecomes,
        revokeEntry_keepsAfter _⟩,
      fun h0 => ⟨_, ?_, (Lease.revoke_of_zero (l := { l with interval := 0 }) (r := .expired) h0 (by simp)) ▸
        hbecomes, revokeEntry_keepsAfter _⟩⟩
    · rw [hexec, scanIf, if_neg (by simp [h0])]
    · rw [hexec, scanIf, if_pos (by simp [h0])]

/-- R8: the index byte of an entry names it. -/
theorem toNat_byteOf_entry (i : EntryIx) : (byteOf i).toNat = i.val := by revert i; decide

/-- Settles O48. -/
theorem boundaryOfAParkedLease : Obligations.BoundaryOfAParkedLease := by
  intro s i g l hlive hentry
  have hl := lease_of_entry hentry
  have hnames : Names s { index := byteOf i, generation := g } i l := ⟨toNat_byteOf_entry i, hentry⟩
  refine ⟨fun hdue hstate => ⟨_, (exec_termBoundary hlive i).trans
      (congrArg _ (takeBoundary_parked hl hdue hstate)), entryBecomes_setLease hentry _, keeps_setLease s i _⟩,
    fun tag hin hstate => ?_, fun tag n hin hstate hlow hhigh hsum => ?_, fun hdue hstate hbal => ?_⟩
  · obtain ⟨t, hexec, hbecomes, -⟩ :=
      (parkAndUnparkChangeTheState s _ tag _ i l hlive hnames rfl).2 hin hstate
    exact ⟨t, hexec, hbecomes⟩
  · obtain ⟨t, hexec, hbecomes, -⟩ :=
      renewRaisesTheBalance s _ tag _ n i l hlive hin hnames rfl (.inr hstate) hlow hhigh hsum
    exact ⟨t, hexec, hbecomes⟩
  · obtain ⟨v, -, hdrains, hgoes⟩ :=
      (boundaryDrawsOrRevokes s i g l hlive hentry hdue hstate).2 hbal.le
    by_cases h0 : l.outstanding = 0
    · obtain ⟨u, hexec, ⟨hself, -⟩, -⟩ := hgoes h0
      have hlease := lease_of_entry hself
      exact ⟨scan u, _, hexec, by rw [State.lease, scan_entry hlease, hself], by simp [HeldOrParked], rfl⟩
    · obtain ⟨t, hexec, ⟨hself, -⟩, -⟩ := hdrains h0
      exact ⟨t, _, hexec, lease_of_entry hself, by simp [HeldOrParked], rfl⟩

/-! ### The ends of a drain -/

/-- Settles O49. -/
theorem drainEndsInFreeOrTombstone : Obligations.DrainEndsInFreeOrTombstone := by
  intro s i g l hlive hentry h0
  have hl := lease_of_entry hentry
  refine ⟨fun hstate => ?_, fun r b hstate => ?_⟩
  · have hexec : exec (.closingDrainEnd i) s = .next (scan (endDrain i l 0x00 s)) := by
      have htake : exec (.closingDrainEnd i) s = .next (takeClosingDrainEnd i s) := whenLive_live hlive _
      rw [htake]
      simp [takeClosingDrainEnd, hl, hstate, h0]
    have hend : endDrain i l 0x00 s = answerClose l.holder i 0x00 (s.setLease i none) := by
      simp [endDrain, hstate, Lease.drained]
    have hset : KeepsAllBut [.directory] s (s.setLease i none) := keeps_setLease s i none
    obtain ⟨hself, hbut⟩ := entryBecomes_setLease hentry none
    rw [hend] at hexec
    refine ⟨fun tag r n hin => ?_, fun hno => ?_⟩
    · have hin' := (congrArg LinkUnit.link (hset.link l.holder)).trans hin
      have hanswer : answerClose l.holder i 0x00 (s.setLease i none) =
          respond l.holder .ok [byteOf n, 0x00] (s.setLease i none) := by
        unfold answerClose
        rw [hin']
        simp
      have hres := respond_keeps l.holder .ok [byteOf n, 0x00] (s.setLease i none)
      obtain ⟨hlink, hlinks⟩ := respond_answered hin' .ok [byteOf n, 0x00]
      exact ⟨_, hexec.trans (by rw [hanswer]), ⟨(hres.entry i).trans hself, fun j hj => (hres.entry j).trans (hbut j hj)⟩,
        ⟨hlink.trans (by rw [hset.link]), fun q hq => (hlinks q hq).trans (hset.link q)⟩,
        (hset.mono (by simp)).trans (hres.mono (by simp))⟩
    · have hanswer : answerClose l.holder i 0x00 (s.setLease i none) = s.setLease i none := by
        unfold answerClose
        split
        · next c hc =>
          obtain ⟨tag, r, closing⟩ := c
          split
          · next w hw =>
            obtain rfl : closing = some w := hw
            obtain ⟨j, n⟩ := w
            refine if_neg fun (hj : j = i) => ?_
            subst hj
            exact hno tag r n ((congrArg LinkUnit.link (hset.link l.holder)).symm.trans hc)
          · rfl
        · rfl
      rw [hanswer] at hexec
      exact ⟨_, hexec, ⟨hself, hbut⟩, hset⟩
  · have hexec : exec (.revokingDrainEnd i) s = .next (scan (s.setLease i l.drained)) := by
      have htake : exec (.revokingDrainEnd i) s = .next (takeRevokingDrainEnd i s) := whenLive_live hlive _
      rw [htake]
      simp [takeRevokingDrainEnd, hl, hstate, h0, endDrain]
    have hdrained : l.drained = if r = .portReset ∨ b = true then none
        else some { l with state := .revoked r, marks := { l.marks with revoked := true } } := by
      simp [Lease.drained, hstate]
    rw [hdrained] at hexec
    exact ⟨_, hexec, entryBecomes_setLease hentry _, keeps_setLease s i _⟩

end Sys2Proof.Machine
end

section
/-! OPEN, the tickets and the scan. -/

namespace Sys2Proof.Machine

/-! ### The lowest-numbered of a table -/

/-- The first of an ascending list that passes a test is the lowest that does. -/
theorem find?_eq_lowest {n : Nat} {l : List (Fin n)} {f : Fin n → Bool} {i : Fin n} (hl : l.Pairwise (· < ·))
    (hi : i ∈ l) (hf : f i = true) (hlow : ∀ j, j < i → f j = false) : l.find? f = some i := by
  induction l with
  | nil => cases hi
  | cons a l ih =>
    obtain ⟨ha, hl⟩ := List.pairwise_cons.mp hl
    rcases List.mem_cons.mp hi with rfl | hmem
    · rw [List.find?_cons_of_pos hf]
    · rw [List.find?_cons_of_neg (by simp [hlow a (ha i hmem)])]
      exact ih hl hmem

theorem freeEntry_of_lowest {s : State} {i : EntryIx} (h : LowestFree s i) : s.freeEntry = some i := by
  obtain ⟨hfree, hlow⟩ := h
  refine find?_eq_lowest (by decide) (mem_allEntries i) (by simp [hfree]) fun j hj => ?_
  simpa [Option.isSome_iff_ne_none] using hlow j hj

theorem freeSlot_of_lowest {s : State} {p : Port} {k : Slot} (h : s.ticket p k = .unused)
    (hlow : ∀ j, j < k → s.ticket p j ≠ .unused) : s.freeSlot p = some k :=
  find?_eq_lowest (by decide) (mem_slots k) (by simp [h]) fun j hj => by simpa using hlow j hj

theorem freeSlot_eq_none {s : State} {p : Port} (h : ∀ k, s.ticket p k ≠ .unused) : s.freeSlot p = none := by
  simp [State.freeSlot, h]

/-! ### The target of an OPEN -/

/-- R149: spans that hold one window overlap. -/
theorem Window.overlaps_of_inside {w a b : Window} (hw : 1 ≤ w.count) (ha : w.inside a = true)
    (hb : w.inside b = true) : a.overlaps b = true := by
  unfold Window.inside Window.last at ha hb
  unfold Window.overlaps Window.last
  rw [decide_eq_true_iff] at *
  omega

/-- Settles O24. -/
theorem openFindsItsTarget : Obligations.OpenFindsItsTarget := by
  intro s p tag base count cls wait limit w c f hlive hin hw hc hf
  refine ⟨fun hno => ?_, fun u a hspan hinside hmap => ?_⟩
  · have hnone : s.targetOfWindow w = none := by
      refine List.find?_eq_none.mpr fun t _ => ?_
      rw [Option.any_eq_true]
      rintro ⟨a, ha, hin⟩
      rw [hno t a ha] at hin
      cases hin
    have htarget : s.openTarget p w = .error .unmapped := by simp [State.openTarget, hnone]
    exact exec_openLease_refused hlive hin (takeOpen_refused hw hc hf htarget)
  · have hfound : s.targetOfWindow w = some u := by
      cases ht : s.targetOfWindow w with
      | none =>
        have hno := List.find?_eq_none.mp ht u (mem_allTargets u)
        simp [hspan, hinside] at hno
      | some v =>
        by_contra hne
        have huv : v ≠ u := fun e => hne (by rw [e])
        have hinv : (s.span v).any w.inside = true := List.find?_some (p := fun t => (s.span t).any w.inside) ht
        obtain ⟨b, hb, hbin⟩ := (Option.any_eq_true _ _).mp hinv
        have hover := Window.overlaps_of_inside (windowOf_inRange hw).1 hbin hinside
        rw [hmap.2 v u b a huv hb hspan] at hover
        cases hover
    refine ⟨hfound, fun hoff => ?_⟩
    have htarget : s.openTarget p w = .error .targetDown := by simp [State.openTarget, hfound, hoff]
    exact exec_openLease_refused hlive hin (takeOpen_refused hw hc hf htarget)

/-! ### A grant at once -/

theorem charge_respond (p q : Port) (st : Status) (res : List Byte) (s : State) :
    (respond p st res s).charge q = s.charge q := by
  have hlease := (respond_keeps p st res s).lease
  have hcount : (respond p st res s).countLeases (fun l => l.holder == q) =
      s.countLeases (fun l => l.holder == q) := countLeases_congr fun i => by rw [hlease i]
  rw [State.charge, hcount, waitingTickets_congr fun k => sameTickets_respond p st res s q k]
  rfl

/-- Settles O26. -/
theorem grantableOpenIsGranted : Obligations.GrantableOpenIsGranted := by
  intro s p tag base count cls wait limit c f i hlive hin hfinds hquota hservice hlease hwait hlow
  have hconflict : s.conflictsAny c = false := by
    rw [← Bool.not_eq_true, conflictsAny_iff]
    rintro (⟨j, l, hl, ho, hc⟩ | ⟨w, hw, hc⟩)
    · rw [hlease j l hl ho] at hc; cases hc
    · rw [hwait w hw] at hc; cases hc
  have hopen : s.openEntry c = some i := by
    simp [State.openEntry, hservice, hconflict, freeEntry_of_lowest hlow]
  have hgrant := grantLease_keeps i p c s
  have hres := respond_keeps p .ok [byteOf i, (s.entry i).generation + 1] (grantLease i p c s)
  obtain ⟨hself, hbut⟩ := grantLease_entry i p c s
  obtain ⟨hlink, hlinks⟩ := respond_answered (hin.of_keeps hgrant) .ok [byteOf i, (s.entry i).generation + 1]
  refine ⟨respond p .ok [byteOf i, (s.entry i).generation + 1] (grantLease i p c s), ?_,
    ⟨(hres.entry i).trans hself, fun j hj => (hres.entry j).trans (hbut j hj)⟩,
    ⟨hlink.trans (by rw [hgrant.link]), fun q hq => (hlinks q hq).trans (hgrant.link q)⟩, ?_,
    (hgrant.mono (by simp)).trans (hres.mono (by simp))⟩
  · rw [exec_openLease hlive hin, takeOpen_found hfinds hquota]
    simp [decideOpen, hopen, State.nextHandle]
  · rw [charge_respond, charge_grantLease hlow.1, if_pos rfl]

/-! ### A request that waits -/

/-- Settles O27. -/
theorem waitingOpenIsQueued : Obligations.WaitingOpenIsQueued := by
  intro s p tag base count cls wait limit c hlive hin hfinds hquota hnot
  have htake : takeOpen p base count cls wait limit s = queueOpen p c limit s := by
    simp [takeOpen_found hfinds hquota, decideOpen, openEntry_eq_none_iff.mpr hnot]
  refine ⟨fun hall => exec_openLease_refused hlive hin ?_, fun k hk hlow =>
    ⟨fun hfull => exec_openLease_refused hlive hin ?_, fun hroom => ?_⟩⟩
  · simp [htake, queueOpen, freeSlot_eq_none hall]
  · simp [htake, queueOpen, freeSlot_of_lowest hk hlow, Config.waitListDepth, hfull]
  · let w : Waiter := { port := p, slot := k, claim := c, remaining := waitLimit limit, due := false }
    let u : State := { s.setTicket p k .waiting with waitList := s.waitList ++ [w] }
    have hu : KeepsAllBut [.links, .waitList] s u :=
      ((keeps_setTicket s p k _).mono (by simp)).trans ((keeps_waitList _ _).mono (by simp))
    have hlinkp : u.link p = { s.link p with tickets := (s.link p).tickets.set k .waiting } :=
      link_setTicket_self s p k _
    have hlinkq : ∀ q, q ≠ p → u.link q = s.link q := fun q hq => link_setTicket_of_ne s k _ hq
    have hinu : InHandIs u p tag (.openLease base count cls wait limit) := by
      rw [InHandIs, hlinkp]; exact hin
    have hres := respond_keeps p .queued [byteOf k, byteOf s.waitList.length] u
    obtain ⟨hlink, hlinks⟩ := respond_answered hinu .queued [byteOf k, byteOf s.waitList.length]
    refine ⟨respond p .queued [byteOf k, byteOf s.waitList.length] u, ?_, hres.waitList,
      hlink.trans (by rw [hlinkp]), fun q hq => (hlinks q hq).trans (hlinkq q hq),
      (hu.mono (by simp)).trans (hres.mono (by simp))⟩
    have hqueue : queueOpen p c limit s = respond p .queued [byteOf k, byteOf s.waitList.length] u := by
      have hlen : ¬ Config.waitListDepth ≤ s.waitList.length := by simpa [Config.waitListDepth] using hroom
      unfold queueOpen
      rw [freeSlot_of_lowest hk hlow]
      exact if_neg hlen
    rw [exec_openLease hlive hin, htake, hqueue]

/-! ### CANCEL and TICKET_READ -/

section
variable {s : State} {p : Port} {tag slot : Byte} {k : Slot}

theorem exec_cancel (hlive : s.resetLow = false) (hin : InHandIs s p tag (.cancel slot)) :
    exec (.cancel p) s = .next (takeCancel p slot s) := by
  have hexec : exec (.cancel p) s = execCancel p s := rfl
  rw [hexec, execCancel, whenLive_live hlive, handed_inHand hin]

theorem exec_ticketRead (hlive : s.resetLow = false) (hin : InHandIs s p tag (.ticketRead slot)) :
    exec (.ticketRead p) s = .next (takeTicketRead p slot s) := by
  have hexec : exec (.ticketRead p) s = execTicketRead p s := rfl
  rw [hexec, execTicketRead, whenLive_live hlive, handed_inHand hin]

theorem tickets_set_self {x : Ticket} (h : s.ticket p k = x) :
    (s.link p).tickets.set k x = (s.link p).tickets := by
  subst h
  exact Vector.set_getElem_self _

/-- R39, R41: the command in hand is answered, with a ticket of its port set. -/
theorem setTicket_respond {r : Request} (hin : InHandIs s p tag r) (k : Slot) (x : Ticket) (st : Status)
    (res : List Byte) : (respond p st res (s.setTicket p k x)).link p = { s.link p with
        tickets := (s.link p).tickets.set k x
        link := .responseReady { tag := tag, status := st, results := res } } ∧
      LinksBut p s (respond p st res (s.setTicket p k x)) ∧
      KeepsAllBut [.links] s (respond p st res (s.setTicket p k x)) := by
  have hin' : InHandIs (s.setTicket p k x) p tag r := by
    rw [InHandIs, link_setTicket_self]; exact hin
  obtain ⟨hlink, hlinks⟩ := respond_answered hin' st res
  exact ⟨hlink.trans (by rw [link_setTicket_self]),
    fun q hq => (hlinks q hq).trans (link_setTicket_of_ne s k x hq),
    (keeps_setTicket s p k x).trans (respond_keeps _ _ _ _)⟩

/-- R39, R41: the command in hand is answered, with a ticket of its port that stays as it is. -/
theorem sameTicket_respond {r : Request} (hin : InHandIs s p tag r) {k : Slot} {x : Ticket}
    (hx : s.ticket p k = x) (st : Status) (res : List Byte) : (respond p st res s).link p = { s.link p with
        tickets := (s.link p).tickets.set k x
        link := .responseReady { tag := tag, status := st, results := res } } ∧
      LinksBut p s (respond p st res s) ∧ KeepsAllBut [.links] s (respond p st res s) := by
  obtain ⟨hlink, hlinks⟩ := respond_answered hin st res
  exact ⟨hlink.trans (by rw [tickets_set_self hx]), hlinks, respond_keeps _ _ _ _⟩

/-- R37, R39: a ticket's request off the list, and its ticket set. -/
theorem dropWaiter_setTicket (s : State) (p : Port) (k : Slot) (x : Ticket) :
    ((dropWaiter p k s).setTicket p k x).waitList = s.waitList.filter (fun w => !(w.port == p && w.slot == k)) ∧
      ((dropWaiter p k s).setTicket p k x).link p = { s.link p with tickets := (s.link p).tickets.set k x } ∧
      LinksBut p s ((dropWaiter p k s).setTicket p k x) ∧
      KeepsAllBut [.waitList, .links] s ((dropWaiter p k s).setTicket p k x) :=
  ⟨rfl, link_setTicket_self _ p k x, fun _ hq => link_setTicket_of_ne _ k x hq,
    ((dropWaiter_keeps p k s).mono (by simp)).trans ((keeps_setTicket _ _ _ _).mono (by simp))⟩

end

/-- Settles O29. -/
theorem cancelEndsATicket : Obligations.CancelEndsATicket := by
  intro s p tag slot hlive hin
  refine ⟨fun hslot => exec_refused hin ?_, fun k hslot => ?_⟩
  · rw [exec_cancel hlive hin, takeCancel, indexOf_eq_none hslot]
  · intro answered
    have hexec := exec_cancel hlive hin
    rw [takeCancel, indexOf_eq_some hslot] at hexec
    refine ⟨fun hk => ⟨_, hexec, ?_⟩, fun h hk => ⟨_, hexec, ?_⟩, fun r hk => ⟨_, hexec, ?_⟩, fun hk => ?_⟩
    · simp only [hk, ticketRecord]
      exact sameTicket_respond hin hk _ _
    · simp only [hk, ticketRecord]
      exact setTicket_respond hin k .unused _ _
    · simp only [hk, ticketRecord]
      exact setTicket_respond hin k .unused _ _
    · simp only [hk, ticketRecord] at hexec
      obtain ⟨hwait, hlink, hbut, hkeeps⟩ := dropWaiter_setTicket s p k .unused
      have hin' : InHandIs ((dropWaiter p k s).setTicket p k .unused) p tag (.cancel slot) := by
        rw [InHandIs, hlink]; exact hin
      exact ⟨_, _, hexec, hwait, hlink, hbut, hkeeps, respond_answered (inHandIs_scan hin') _ _,
        respond_keeps _ _ _ _⟩

/-- Settles O30. -/
theorem ticketsAreReadAndExpire : Obligations.TicketsAreReadAndExpire := by
  refine ⟨rfl, fun s p tag slot hlive hin => ⟨fun hslot => exec_refused hin ?_, fun k hslot => ?_⟩,
    fun s p k w hlive hw hdue => ?_⟩
  · rw [exec_ticketRead hlive hin, takeTicketRead, indexOf_eq_none hslot]
  · intro answered
    have hexec := exec_ticketRead hlive hin
    rw [takeTicketRead, indexOf_eq_some hslot] at hexec
    refine ⟨fun hk => ⟨_, hexec, ?_⟩, fun hk => ⟨_, hexec, ?_⟩, fun h hk => ⟨_, hexec, ?_⟩,
      fun r hk => ⟨_, hexec, ?_⟩⟩
    · simp only [hk, ticketRecord]
      exact sameTicket_respond hin hk _ _
    · simp only [hk, ticketRecord]
      exact sameTicket_respond hin hk _ _
    · simp only [hk, ticketRecord]
      exact setTicket_respond hin k .unused _ _
    · simp only [hk, ticketRecord]
      exact setTicket_respond hin k .unused _ _
  · have hexec : exec (.waitExpired p k) s = .next (takeWaitExpiry p k s) := whenLive_live hlive _
    simp only [takeWaitExpiry, hw, hdue, if_true] at hexec
    exact ⟨_, hexec, dropWaiter_setTicket s p k _⟩

/-! ### The scan -/

/-- R34: one request of the walk is granted in the lowest FREE entry, or stays on the list. -/
theorem scanFrom_cons (w : Waiter) (rest kept : List Waiter) (s : State) :
    (∃ i, s.scanGrantable kept w = true ∧ s.freeEntry = some i ∧
      scanFrom (w :: rest) kept s = scanFrom rest kept (grantWaiter i w s)) ∨
    ((s.scanGrantable kept w = false ∨ s.freeEntry = none) ∧
      scanFrom (w :: rest) kept s = scanFrom rest (w :: kept) s) := by
  rw [scanFrom]
  cases hg : s.scanGrantable kept w with
  | false => exact .inr ⟨.inl rfl, by simp⟩
  | true =>
    cases hf : s.freeEntry with
    | none => exact .inr ⟨.inr rfl, by simp⟩
    | some i => exact .inl ⟨i, rfl, rfl, by simp⟩

theorem scanFrom_cons_granted {w : Waiter} {rest kept : List Waiter} {s : State} {i : EntryIx}
    (hg : s.scanGrantable kept w = true) (hf : s.freeEntry = some i) :
    scanFrom (w :: rest) kept s = scanFrom rest kept (grantWaiter i w s) := by
  rw [scanFrom]
  simp [hg, hf]

theorem scanFrom_cons_kept {w : Waiter} {rest kept : List Waiter} {s : State}
    (h : s.scanGrantable kept w = false ∨ s.freeEntry = none) :
    scanFrom (w :: rest) kept s = scanFrom rest (w :: kept) s := by
  rw [scanFrom]
  rcases h with h | h <;> simp [h]

/-- R34: the claim conflicts with an occupying entry, or with a request that the walk has left on the list. -/
inductive Blocked (s : State) (kept : List Waiter) (c : Claim) : Prop where
  | lease (i : EntryIx) (l : Lease) (hl : s.lease i = some l) (ho : l.occupying = true)
      (hc : l.claim.conflicts c = true)
  | waiter (o : Waiter) (ho : o ∈ kept) (hc : o.claim.conflicts c = true)

theorem Blocked.not_grantable {s : State} {kept : List Waiter} {w : Waiter} (h : Blocked s kept w.claim) :
    s.scanGrantable kept w = false := by
  rw [← Bool.not_eq_true, scanGrantable_iff]
  rintro ⟨-, hocc, hkept⟩
  cases h with
  | lease i l hl ho hc => rw [conflictsOccupying_none_iff.mpr ⟨i, l, hl, ho, hc⟩] at hocc; cases hocc
  | waiter o ho hc => rw [hkept o ho] at hc; cases hc

/-- R34: a grant takes a FREE entry, so that every lease stays. -/
theorem lease_grantWaiter_of_some {s : State} {i j : EntryIx} {l : Lease} (w : Waiter)
    (hf : s.freeEntry = some i) (hl : s.lease j = some l) : (grantWaiter i w s).lease j = some l := by
  have hne : j ≠ i := fun e => by rw [e, freeEntry_free hf] at hl; cases hl
  rw [State.lease, entry_grantWaiter_of_ne w s hne]
  exact hl

theorem lease_grantWaiter_self (i : EntryIx) (w : Waiter) (s : State) :
    (grantWaiter i w s).lease i = some (grantedLease s w.port w.claim) := by
  rw [State.lease, entry_grantWaiter_self]
  rfl

theorem Blocked.grantWaiter {s : State} {kept : List Waiter} {c : Claim} (h : Blocked s kept c) {i : EntryIx}
    (hf : s.freeEntry = some i) (w : Waiter) : Blocked (Machine.grantWaiter i w s) kept c := by
  cases h with
  | lease j l hl ho hc => exact .lease j l (lease_grantWaiter_of_some w hf hl) ho hc
  | waiter o ho hc => exact .waiter o ho hc

theorem Blocked.cons {s : State} {kept : List Waiter} {c : Claim} (h : Blocked s kept c) (w : Waiter) :
    Blocked s (w :: kept) c := by
  cases h with
  | lease j l hl ho hc => exact .lease j l hl ho hc
  | waiter o ho hc => exact .waiter o (List.mem_cons_of_mem _ ho) hc

theorem mem_scanFrom_of_kept {rest kept : List Waiter} {s : State} {x : Waiter} (h : x ∈ kept) :
    x ∈ (scanFrom rest kept s).waitList := by
  obtain ⟨_, left, -, hlist⟩ := scanFrom_scanned rest kept s
  rw [hlist]
  exact List.mem_append_left _ (List.mem_reverse.mpr h)

/-- R34: a blocked request stays on the list. -/
theorem mem_scanFrom_of_blocked {x : Waiter} {newer : List Waiter} (between kept : List Waiter) (s : State)
    (h : Blocked s kept x.claim) : x ∈ (scanFrom (between ++ x :: newer) kept s).waitList := by
  induction between generalizing kept s with
  | nil =>
    rw [List.nil_append, scanFrom_cons_kept (.inl h.not_grantable)]
    exact mem_scanFrom_of_kept (List.mem_cons_self ..)
  | cons w rest ih =>
    rw [List.cons_append]
    rcases scanFrom_cons w (rest ++ x :: newer) kept s with ⟨i, -, hf, heq⟩ | ⟨-, heq⟩
    · rw [heq]; exact ih kept _ (h.grantWaiter hf w)
    · rw [heq]; exact ih _ s (h.cons w)

/-- R34: a request blocks those younger than it that conflict with it, whether it is granted or stays. -/
theorem mem_scanFrom_of_conflict {w x : Waiter} {between newer : List Waiter}
    (hc : w.claim.conflicts x.claim = true) (older kept : List Waiter) (s : State) :
    x ∈ (scanFrom (older ++ w :: between ++ x :: newer) kept s).waitList := by
  induction older generalizing kept s with
  | nil =>
    rw [List.nil_append, List.cons_append]
    rcases scanFrom_cons w (between ++ x :: newer) kept s with ⟨i, -, hf, heq⟩ | ⟨-, heq⟩
    · rw [heq]
      exact mem_scanFrom_of_blocked _ _ _ (.lease i _ (lease_grantWaiter_self i w s) rfl hc)
    · rw [heq]
      exact mem_scanFrom_of_blocked _ _ _ (.waiter w (List.mem_cons_self ..) hc)
  | cons v rest ih =>
    rw [List.cons_append, List.cons_append]
    rcases scanFrom_cons v (rest ++ w :: between ++ x :: newer) kept s with ⟨i, -, -, heq⟩ | ⟨-, heq⟩
    · rw [heq]; exact ih kept _
    · rw [heq]; exact ih _ s

/-! ### What stays on the list fails a condition -/

/-- R34: with these older requests on the list, the request fails one of the four conditions. -/
def Stuck (s : State) (older : List Waiter) (w : Waiter) : Prop :=
  (s.target w.claim.target).state.inService = false ∨
    (∃ i l, s.lease i = some l ∧ l.occupying = true ∧ l.claim.conflicts w.claim = true) ∨
    (∃ o, o ∈ older ∧ o.claim.conflicts w.claim = true) ∨ ∀ i, s.lease i ≠ none

/-- R34: every request of the list is stuck behind the older ones. -/
def AllStuck (s : State) (ws : List Waiter) : Prop :=
  ∀ older w newer, ws = older ++ w :: newer → Stuck s older w

theorem stuck_iff {s : State} {kept : List Waiter} {w : Waiter} :
    Stuck s kept w ↔ s.scanGrantable kept w = false ∨ s.freeEntry = none := by
  rw [← Bool.not_eq_true, scanGrantable_iff, freeEntry_eq_none_iff, Stuck, ← conflictsOccupying_none_iff]
  have hkept : (∃ o, o ∈ kept ∧ o.claim.conflicts w.claim = true) ↔
      ¬ ∀ o, o ∈ kept → o.claim.conflicts w.claim = false := by simp
  rw [hkept, ← Bool.not_eq_true, ← Bool.not_eq_true]
  tauto

theorem Stuck.of_mem {s : State} {older older' : List Waiter} {w : Waiter} (h : Stuck s older w)
    (hmem : ∀ o, o ∈ older → o ∈ older') : Stuck s older' w :=
  h.imp_right (Or.imp_right (Or.imp_left fun ⟨o, ho, hc⟩ => ⟨o, hmem o ho, hc⟩))

theorem Stuck.grantWaiter {s : State} {older : List Waiter} {w : Waiter} (h : Stuck s older w) {i : EntryIx}
    (hf : s.freeEntry = some i) (v : Waiter) : Stuck (Machine.grantWaiter i v s) older w := by
  rcases h with h | ⟨j, l, hl, hoc⟩ | h | h
  · exact .inl (by rwa [(grantWaiter_keeps i v s).target])
  · exact .inr (.inl ⟨j, l, lease_grantWaiter_of_some v hf hl, hoc⟩)
  · exact .inr (.inr (.inl h))
  · exact absurd (freeEntry_free hf) (h i)

theorem AllStuck.concat {s : State} {ws : List Waiter} {w : Waiter} (h : AllStuck s ws)
    (hw : Stuck s ws w) : AllStuck s (ws ++ [w]) := by
  intro older v newer heq
  rcases List.eq_nil_or_concat newer with rfl | ⟨front, last, rfl⟩
  · obtain ⟨rfl, hv⟩ := List.append_inj' heq rfl
    obtain rfl := (List.cons.inj hv).1
    exact hw
  · have hsplit : ws ++ [w] = (older ++ v :: front) ++ [last] := by rw [heq]; simp
    exact h older v front (List.append_inj' hsplit rfl).1

/-- R34: a scan leaves only requests that fail a condition. -/
theorem allStuck_scan (s : State) : AllStuck (scan s) (scan s).waitList := by
  refine scanFrom_induct (P := fun _ kept s => AllStuck s kept.reverse)
    (Q := fun t => AllStuck t t.waitList) (fun kept s h => h)
    (fun w rest kept s hno h => ?_) (fun w rest kept s i _ hf h older v newer heq => (h older v newer heq).grantWaiter hf w)
    s.waitList [] s (fun older v newer heq => ?_)
  · rw [List.reverse_cons]
    exact h.concat ((stuck_iff.mpr hno).of_mem fun o ho => List.mem_reverse.mpr ho)
  · simp at heq

/-- R36: a list whose requests all fail is left as it is. -/
theorem scanFrom_of_allStuck {s : State} (h : AllStuck s s.waitList) (rest kept : List Waiter)
    (heq : s.waitList = kept.reverse ++ rest) : scanFrom rest kept s = s := by
  induction rest generalizing kept with
  | nil => rw [scanFrom, ← List.append_nil kept.reverse, ← heq]
  | cons w rest ih =>
    have hstuck : Stuck s kept w := (h _ w rest heq).of_mem fun o ho => List.mem_reverse.mp ho
    rw [scanFrom_cons_kept (stuck_iff.mp hstuck)]
    exact ih _ (by rw [heq]; simp)

theorem countP_isOf_eq_zero {ws : List Waiter} {p : Port} {k : Slot}
    (h : ∀ w, w ∈ ws → ¬ (w.port = p ∧ w.slot = k)) : ws.countP (Waiter.isOf p k) = 0 :=
  List.countP_eq_zero.mpr fun w hw => by simpa [Waiter.isOf] using h w hw

/-- Settles O31. -/
theorem scanKeepsTheListsOrder : Obligations.ScanKeepsTheListsOrder := by
  intro s
  obtain ⟨granted, hscan⟩ := scan_scanned s
  refine ⟨scan_keeps s, fun i l hl => scan_entry hl, scan_link s,
    fun p k hno => hscan.ticket p k (countP_isOf_eq_zero hno), hscan.sublist,
    scanFrom_of_allStuck (allStuck_scan s) _ [] rfl, fun older between newer w x heq hc => ?_,
    fun older w newer heq => ?_, fun w hw hone hgone => ?_⟩
  · unfold scan
    rw [heq]
    exact mem_scanFrom_of_conflict hc older [] s
  · have hstuck := allStuck_scan s older w newer heq
    rwa [Stuck, (scan_keeps s).target] at hstuck
  · have hgranted : w ∈ granted :=
      (List.mem_append.mp (hscan.perm.mem_iff.mp hw)).resolve_right hgone
    obtain ⟨i, hfree, hentry, hticket⟩ := hscan.grant w hgranted
    exact ⟨i, hfree, hentry, hticket hone⟩

/-- Settles O32. -/
theorem scanGrantsTheOldest : Obligations.ScanGrantsTheOldest := by
  intro s w rest hlist hother free
  have hscan : scan s = scanFrom (w :: rest) [] s := by rw [scan, hlist]
  have hzero : rest.countP (Waiter.isOf w.port w.slot) = 0 := countP_isOf_eq_zero hother
  have hgrantable : s.scanGrantable [] w = true ↔ free := by
    rw [scanGrantable_iff, conflictsOccupying_eq_false_iff]
    simp [free]
  refine ⟨fun i hfree hlow => ?_, fun hno => ?_⟩
  · have hstep := scanFrom_cons_granted (rest := rest) (hgrantable.mpr hfree) (freeEntry_of_lowest hlow)
    obtain ⟨granted, left, hs, hleft⟩ := scanFrom_scanned rest [] (grantWaiter i w s)
    rw [hscan, hstep]
    refine ⟨?_, ?_, ?_⟩
    · rw [scanFrom_entry (lease_grantWaiter_self i w s), entry_grantWaiter_self]
      rfl
    · rw [hs.ticket _ _ hzero, ticket_grantWaiter_self]
      rfl
    · rw [hleft]; exact hs.sublist
  · have hkept : s.scanGrantable [] w = false ∨ s.freeEntry = none := by
      rcases hno with hno | hfull
      · exact .inl (by rwa [← Bool.not_eq_true, hgrantable])
      · exact .inr (freeEntry_eq_none_iff.mpr hfull)
    obtain ⟨granted, left, hs, hleft⟩ := scanFrom_scanned rest [w] s
    rw [hscan, scanFrom_cons_kept hkept]
    exact ⟨by rw [hleft]; rfl, hs.ticket _ _ hzero⟩

end Sys2Proof.Machine
end

section
/-! A write stalled under an entry is refused when its lease ends. -/

namespace Sys2Proof.Machine

theorem fault_of_answered {s t : State} {p : Port} {tag : Byte} {st : Status} {res : List Byte}
    (h : Answered p tag st res s t) (q : Port) : (t.link q).fault = (s.link q).fault := by
  obtain ⟨hself, hbut⟩ := h
  by_cases hq : q = p
  · rw [hq, hself]
  · rw [hbut q hq]

theorem fault_scan (s : State) (q : Port) : ((scan s).link q).fault = (s.link q).fault := by rw [scan_link]

theorem link_of_answered {s t : State} {p : Port} {tag : Byte} {st : Status} {res : List Byte}
    (h : Answered p tag st res s t) :
    (t.link p).link = .responseReady { tag := tag, status := st, results := res } := by rw [h.1]

/-- R122: what the refusal of the stalled write leaves in a step that goes on with the directory, the wait
list and the links alone, and enters no other fault. -/
theorem refused_after {s v t : State} {w : PostedWrite} {r : FaultReason} (hw : s.stalled = some w)
    (hv : StalledRefused w.handle.index r s v) (hk : KeepsAllBut [.directory, .links, .waitList] v t)
    (hfault : (t.link w.port).fault = (v.link w.port).fault) :
    t.stalled = none ∧ t.queue = s.queue ∧ t.answer = some { acks := 0, ierr := true, words := [] } ∧
      (t.link w.port).fault = (s.link w.port).fault.enter
        { reason := r, access := some (w.address, .write), handle := some w.handle
          target := some w.target } := by
  obtain ⟨hstalled, hanswer, ⟨hlink, -⟩, hkeeps⟩ := hv.2 w hw rfl
  exact ⟨hk.stalled.trans hstalled, hk.queue.trans hkeeps.queue, hk.answer.trans hanswer,
    hfault.trans (by rw [hlink])⟩

/-- Settles O41: each of the five commands refuses the write first, and goes on as its own statement says. -/
theorem stalledWriteIsRefusedWithItsLease : Obligations.StalledWriteIsRefusedWithItsLease := by
  intro s w tag l hlive hw hentry hstate hholder i h refused answered revoked
  have hnames : Names s h i l := ⟨toNat_byteOf_entry i, hentry⟩
  have hl : s.lease i = some l := lease_of_entry hentry
  refine ⟨fun hin => ?_, fun hin => ?_, fun hin => ?_, fun hin => ?_, fun hdue hbal => ?_⟩
  · obtain ⟨v, t, hv, hexec, ⟨hself, -⟩, hans, hk⟩ :=
      (parkAndUnparkChangeTheState s w.port tag h i l hlive hnames hholder).1 hin hstate
    obtain ⟨hst, hq, ha, hf⟩ := refused_after hw hv (hk.mono (by simp)) (fault_of_answered hans w.port)
    exact ⟨t, hexec, hst, hq, ha, hf, hself, link_of_answered hans⟩
  · obtain ⟨v, hv, hfrees, hdrains⟩ :=
      closeFreesOrDrains s w.port tag h i l hlive hin hnames hholder (.inl hstate)
    by_cases h0 : l.outstanding = 0
    · obtain ⟨u, hexec, ⟨hself, -⟩, hans, hk⟩ := hfrees h0
      obtain ⟨hst, hq, ha, hf⟩ := refused_after hw hv ((hk.mono (by simp)).trans (scan_keeps u))
        ((fault_scan u _).trans (fault_of_answered hans w.port))
      exact ⟨scan u, hexec, hst, hq, ha, hf,
        fun _ => ⟨⟨u, rfl, hself⟩, (congrArg LinkUnit.link (scan_link u _)).trans (link_of_answered hans)⟩,
        fun hne => absurd h0 hne⟩
    · obtain ⟨t, hexec, ⟨hself, -⟩, hlink, -, hk⟩ := hdrains h0
      obtain ⟨hst, hq, ha, hf⟩ := refused_after hw hv (hk.mono (by simp)) (by rw [hlink])
      exact ⟨t, hexec, hst, hq, ha, hf, fun hz => absurd hz h0, fun _ => ⟨hself, by rw [hlink]⟩⟩
  · obtain ⟨v, hv, hgone, hdrains⟩ := revokeEndsALiveLease s tag h i l hlive hin hnames (.inl hstate)
    by_cases h0 : l.outstanding = 0
    · obtain ⟨u, t, hexec, ⟨hself, -⟩, hku, hans, hkt⟩ := hgone h0
      have hk := ((hku.mono (by simp)).trans (scan_keeps u)).trans (hkt.mono (by simp))
      have hfault := (fault_of_answered hans w.port).trans
        ((fault_scan u _).trans (congrArg LinkUnit.fault (hku.link w.port)))
      obtain ⟨hst, hq, ha, hf⟩ := refused_after hw hv (hk.mono (by simp)) hfault
      refine ⟨t, hexec, hst, hq, ha, hf, ?_, ?_⟩
      · exact (hkt.entry i).trans ((scan_entry (lease_of_entry hself)).trans (by rw [hself, if_pos h0]))
      · exact (link_of_answered hans).trans (by simp [h0, byteOf])
    · obtain ⟨t, hexec, ⟨hself, -⟩, hans, hk⟩ := hdrains h0
      obtain ⟨hst, hq, ha, hf⟩ := refused_after hw hv (hk.mono (by simp)) (fault_of_answered hans w.port)
      exact ⟨t, hexec, hst, hq, ha, hf, hself.trans (by rw [if_neg h0]),
        (link_of_answered hans).trans (by rw [if_neg h0])⟩
  · obtain ⟨v, t, hexec, -, hv, hentries, -, -, hlinks, hk⟩ :=
      directoryClearRevokesAndEmpties s tag hlive hin
    have hv' := hv w hw ⟨l, hl, .inl hstate⟩
    obtain ⟨hgen, hrevoked, -, -⟩ := hentries i
    obtain ⟨hst, hq, ha, hf⟩ := refused_after hw hv' (hk.mono (by simp)) (by rw [hlinks])
    exact ⟨t, hexec, hst, hq, ha, hf, Entry.eq_of (hgen.trans (by rw [hentry])) (hrevoked l hl (.inl hstate)),
      congrArg LinkUnit.link (hlinks 0)⟩
  · obtain ⟨v, hv, hdrains, hgoes⟩ := (boundaryDrawsOrRevokes s i _ l hlive hentry hdue hstate).2 hbal.le
    by_cases h0 : l.outstanding = 0
    · obtain ⟨u, hexec, ⟨hself, -⟩, hk⟩ := hgoes h0
      obtain ⟨hst, hq, ha, hf⟩ := refused_after hw hv ((hk.mono (by simp)).trans (scan_keeps u))
        ((fault_scan u _).trans (congrArg LinkUnit.fault (hk.link w.port)))
      exact ⟨scan u, hexec, hst, hq, ha, hf,
        (scan_entry (lease_of_entry hself)).trans (by rw [hself, if_pos h0])⟩
    · obtain ⟨t, hexec, ⟨hself, -⟩, hk⟩ := hdrains h0
      obtain ⟨hst, hq, ha, hf⟩ := refused_after hw hv (hk.mono (by simp))
        (congrArg LinkUnit.fault (hk.link w.port))
      exact ⟨t, hexec, hst, hq, ha, hf, hself.trans (by rw [if_neg h0])⟩

end Sys2Proof.Machine
end

section
/-! The arbiter: the request lines, an arbitration, the loss of a grant and the timers. -/

namespace Sys2Proof.Machine

/-! ### The loss of a grant -/

theorem grantLost_keeps (p : Port) (r : Requester) (s : State) :
    KeepsAllBut [.arbiter, .read] s (grantLost p r s) :=
  (((keeps_setRequester s p r).mono (by simp)).trans ((discardRead_keeps p _).mono (by simp))).trans
    ((keeps_arb _ _).mono (by simp))

theorem requesting_grantLost (p q : Port) (r : Requester) (s : State) :
    (grantLost p r s).requesting q = (s.setRequester p r).requesting q := by
  have harb := (discardRead_keeps p (s.setRequester p r)).arb
  simp [grantLost, State.requesting, harb]

/-- R101, R106, R112: what the loss of a grant leaves for the arbitration. -/
theorem grantLost_made (p : Port) (r : Requester) (s : State) :
    GrantLost p { s.requesting p with req := r } s.arb.graceTimer.count s (grantLost p r s) := by
  refine ⟨?_, fun q hq => ?_, ?_, read_grantLost p r s⟩
  · rw [requesting_grantLost]
    exact requesting_setRequesting_self s p _
  · rw [requesting_grantLost]
    exact requesting_setRequesting_of_ne s _ hq
  · have harb := (discardRead_keeps p (s.setRequester p r)).arb
    have hbus : (if (grantLost p r s).read.isSome then BusState.handover else .free) =
        if s.read = none then .free else .handover := by
      rw [read_grantLost, Option.isSome_map]
      cases s.read <;> simp
    rw [← hbus]
    simp only [grantLost, harb]
    rfl

/-- R101, R106, R112: the loss of a grant after changes that reach neither the bus nor the hold timer. -/
theorem GrantLost.after {p : Port} {q : Requesting} {grace : Nat} {s u v : State} (h : GrantLost p q grace u v)
    (hbut : RequestersBut p s u)
    (harb : u.arb = { s.arb with ports := u.arb.ports, graceTimer := u.arb.graceTimer })
    (hread : u.read = s.read) : GrantLost p q grace s v := by
  obtain ⟨hself, hother, hv, hvread⟩ := h
  rw [hread] at hv hvread
  refine ⟨hself, fun x hx => (hother x hx).trans (hbut x hx), ?_, hvread⟩
  rw [hv, harb]

theorem RequestersBut.of_keeps {may : List Part} {s t : State} (p : Port) (h : KeepsAllBut may s t)
    (hp : .arbiter ∉ may := by decide) : RequestersBut p s t := fun q _ => h.requesting q hp

/-- R101, R107, R126: the end of the access in hand. -/
theorem endInHand_of_inHand {s : State} (h : s.inHand = true) (b : Bool) :
    (endInHand b s).stalled = none ∧ (endInHand b s).answer = some { acks := 0, ierr := b, words := [] } := by
  simp [endInHand, h, answerBus]

theorem endInHand_of_not {s : State} (h : s.inHand = false) (b : Bool) : endInHand b s = s := by
  simp [endInHand, h]

/-! ### The request lines -/

/-- R97, R100: a change of what the arbiter holds for one port. -/
theorem setRequesting_made (s : State) (p : Port) (r : Requesting) :
    (s.setRequesting p r).requesting p = r ∧ RequestersBut p s (s.setRequesting p r) ∧
      (s.setRequesting p r).arb = { s.arb with ports := (s.setRequesting p r).arb.ports } ∧
      KeepsAllBut [.arbiter] s (s.setRequesting p r) :=
  ⟨requesting_setRequesting_self s p r, fun _ hq => requesting_setRequesting_of_ne s r hq, rfl,
    keeps_setRequesting s p r⟩

theorem setRequesting_setRequesting (s : State) (p : Port) (r r' : Requesting) :
    (s.setRequesting p r).setRequesting p r' = s.setRequesting p r' := by
  simp [State.setRequesting]

/-- R94, R97: the line of a port and its requester state are set. -/
theorem setRequester_setTrq (s : State) (p : Port) (b : Bool) (r : Requester) :
    (s.setTrq p b).setRequester p r = s.setRequesting p { s.requesting p with trq := b, req := r } := by
  unfold State.setRequester State.setTrq
  rw [setRequesting_setRequesting, requesting_setRequesting_self]

theorem setTrq_eq (s : State) (p : Port) (b : Bool) :
    s.setTrq p b = s.setRequesting p { s.requesting p with trq := b, req := s.requester p } := rfl

theorem requester_setTrq (s : State) (p : Port) (b : Bool) : (s.setTrq p b).requester p = s.requester p := by
  have hself : (s.setTrq p b).requesting p = { s.requesting p with trq := b } := requesting_setRequesting_self s p _
  have hreq : (s.setTrq p b).requester p = ((s.setTrq p b).requesting p).req := rfl
  rw [hreq, hself]
  rfl

theorem tgr_eq_true_iff {s : State} {p : Port} :
    s.tgr p = true ↔ s.requester p = .owner ∨ s.requester p = .yielding := by
  unfold State.tgr
  cases s.requester p <;> simp

/-- R100, R101: the fall of an owner's line. -/
theorem takeFall_of_tgr {s : State} {p : Port} (h : s.tgr p = true) :
    takeFall p s = arbitrate (grantLost p .idle (endInHand false s)) := by
  rw [← loseGrant_eq]
  rcases tgr_eq_true_iff.mp h with h | h <;> simp [takeFall, h]

/-- R100, R109: the fall of the line of a port without the bus. -/
theorem takeFall_setTrq {s : State} {p : Port} (h : s.tgr p = false) : takeFall p (s.setTrq p false) =
    s.setRequesting p { s.requesting p with trq := false, req := .idle } := by
  have hset := setRequester_setTrq s p false .idle
  unfold takeFall
  rw [requester_setTrq]
  split
  · next hr => rw [setTrq_eq, hr]
  · exact hset
  · next hr => simp [State.tgr, hr] at h
  · next hr => simp [State.tgr, hr] at h
  · exact hset

/-- Settles O50. -/
theorem requestLinesAreTaken : Obligations.RequestLinesAreTaken := by
  intro s p hlive lined
  have hrise : exec (.trqRise p) s = .next (if (s.requesting p).trq = true then s
      else if (s.link p).prstLow = true then s.setTrq p true else takeRise p (s.setTrq p true)) := by
    have hexec : exec (.trqRise p) s = execTrqRise p s := rfl
    rw [hexec, execTrqRise, whenLive_live hlive]
  have hfall : exec (.trqFall p) s = .next (if (s.requesting p).trq = true then
      if (s.link p).prstLow = true then s.setTrq p false else takeFall p (s.setTrq p false) else s) := by
    have hexec : exec (.trqFall p) s = execTrqFall p s := rfl
    rw [hexec, execTrqFall, whenLive_live hlive]
  refine ⟨fun hh => by rw [hrise, if_pos hh], fun hl => by rw [hfall, if_neg (by simp [hl])],
    fun hp => ⟨fun hl => ?_, fun hh => ?_⟩, fun hp hl => ⟨fun hidle => ?_, fun hidle => ?_⟩,
    fun hp hh => ⟨fun htgr => ?_, fun htgr => ?_⟩⟩
  · rw [if_neg (by simp [hl]), if_pos hp] at hrise
    exact ⟨_, hrise, setRequesting_made s p _⟩
  · rw [if_pos hh, if_pos hp] at hfall
    exact ⟨_, hfall, setRequesting_made s p _⟩
  · rw [if_neg (by simp [hl]), if_neg (by simp [hp])] at hrise
    refine ⟨s.setRequesting p { s.requesting p with trq := true, req := .waiting },
      setRequesting_made s p _, ?_⟩
    rw [hrise]
    unfold takeRise
    rw [requester_setTrq, hidle]
    dsimp only
    rw [setRequester_setTrq]
    have hbus : (s.setRequesting p { s.requesting p with trq := true, req := .waiting }).arb.bus = s.arb.bus := rfl
    rw [hbus]
    cases s.arb.bus <;> simp
  · rw [if_neg (by simp [hl]), if_neg (by simp [hp])] at hrise
    refine ⟨s.setTrq p true, ?_, setRequesting_made s p _⟩
    rw [hrise]
    unfold takeRise
    rw [requester_setTrq]
    split
    · next h => exact absurd h hidle
    · rfl
  · rw [if_pos hh, if_neg (by simp [hp]), takeFall_setTrq htgr] at hfall
    exact ⟨_, hfall, setRequesting_made s p _⟩
  · have htgr' : (s.setTrq p false).tgr p = true := by
      rw [tgr_eq_true_iff, requester_setTrq, ← tgr_eq_true_iff]; exact htgr
    rw [if_pos hh, if_neg (by simp [hp]), takeFall_of_tgr htgr'] at hfall
    have hend := endInHand_keeps false (s.setTrq p false)
    have hlost := grantLost_keeps p .idle (endInHand false (s.setTrq p false))
    obtain ⟨hself, hbut, harb, hkeep⟩ := setRequesting_made s p { s.requesting p with trq := false }
    have hmade := grantLost_made p .idle (endInHand false (s.setTrq p false))
    rw [hend.arb, hend.requesting] at hmade
    have hreq : (s.setTrq p false).requesting p = { s.requesting p with trq := false } := hself
    rw [hreq] at hmade
    refine ⟨grantLost p .idle (endInHand false (s.setTrq p false)), hfall,
      hmade.after (fun q hq => (hend.requesting q).trans (hbut q hq)) ?_ hend.read, fun hin => ?_, fun hin => ?_, ?_⟩
    · rw [hend.arb]
      exact harb
    · obtain ⟨hst, han⟩ := endInHand_of_inHand (s := s.setTrq p false) hin false
      exact ⟨hlost.stalled.trans hst, hlost.answer.trans han⟩
    · have hsame := endInHand_of_not (s := s.setTrq p false) hin false
      rw [hsame] at hlost ⊢
      exact ⟨hlost.stalled, hlost.answer⟩
    · exact ((hkeep.mono (by simp)).trans (hend.mono (by simp))).trans (hlost.mono (by simp))

/-! ### An arbitration -/

/-- The first of a list ascending by a key that passes a test is one that passes with the least key. -/
theorem find?_eq_least {α : Type} {n : Nat} {key : α → Fin n} {l : List α} {f : α → Bool} {a : α}
    (hl : l.Pairwise fun x y => key x < key y) (ha : a ∈ l) (hf : f a = true)
    (hleast : ∀ b, f b = true → key a ≤ key b) : l.find? f = some a := by
  induction l with
  | nil => cases ha
  | cons b l ih =>
    obtain ⟨hb, hl⟩ := List.pairwise_cons.mp hl
    rcases List.mem_cons.mp ha with rfl | hmem
    · rw [List.find?_cons_of_pos hf]
    · have hnot : f b ≠ true := fun hfb => absurd (hleast b hfb) (not_le.mpr (hb a hmem))
      rw [List.find?_cons_of_neg hnot]
      exact ih hl hmem

/-- R98: round robin goes by the distance from the pointer. -/
theorem roundRobin_ascends (ptr : Port) : (roundRobin ptr).Pairwise fun x y => x - ptr - 1 < y - ptr - 1 := by
  revert ptr
  decide

/-- R98: the port that an arbitration selects. -/
theorem arbitrationChoice_eq {s : State} {p : Port} (hp : s.requester p = .waiting)
    (hlevel : ∀ q, s.requester q = .waiting → (s.requesting q).level ≤ (s.requesting p).level)
    (hturn : ∀ q, s.requester q = .waiting → (s.requesting q).level = (s.requesting p).level →
      p - s.arb.pointers[(s.requesting p).level] - 1 ≤ q - s.arb.pointers[(s.requesting p).level] - 1) :
    s.arbitrationChoice = some p := by
  have hmem : (s.requesting p).level ∈ ([3, 2, 1, 0] : List (Fin 4)) := by
    generalize (s.requesting p).level = lv
    revert lv
    decide
  obtain ⟨above, below, hsplit⟩ := List.append_of_mem hmem
  have hdesc : ([3, 2, 1, 0] : List (Fin 4)).Pairwise (· > ·) := by decide
  rw [hsplit] at hdesc
  obtain ⟨-, -, habove⟩ := List.pairwise_append.mp hdesc
  unfold State.arbitrationChoice
  rw [hsplit, List.findSome?_eq_some_iff]
  refine ⟨above, _, below, rfl, ?_, fun lv hlv => List.find?_eq_none.mpr fun q _ hq => ?_⟩
  · refine find?_eq_least (roundRobin_ascends _) (mem_roundRobin _ p) (by simp [hp]) fun q hq => ?_
    rw [Bool.and_eq_true, beq_iff_eq, beq_iff_eq] at hq
    exact hturn q hq.1 hq.2
  · rw [Bool.and_eq_true, beq_iff_eq, beq_iff_eq] at hq
    exact absurd (hq.2 ▸ hlevel q hq.1) (not_le.mpr (habove lv hlv _ (List.mem_cons_self ..)))

/-- Settles O51. -/
theorem arbitrationGrantsInTurn : Obligations.ArbitrationGrantsInTurn := by
  intro s
  refine ⟨fun hbus => ?_, fun hnone => ?_, fun hbus p hp hlevel hturn => ?_⟩
  · rcases arbitrate_cases s with h | ⟨p, hfree, -⟩
    · exact h
    · exact absurd hfree hbus
  · rcases arbitrate_cases s with h | ⟨p, -, -, hp, -⟩
    · exact h
    · exact absurd hp (hnone p)
  · intro r
    have harb : arbitrate s = grantBus p s := by
      simp [arbitrate, hbus, arbitrationChoice_eq hp hlevel hturn]
    obtain ⟨hself, hbut, -, -⟩ := setRequesting_made s p { s.requesting p with req := .owner }
    refine ⟨grantBus p s, harb, hself, hbut, rfl, rfl, rfl, rfl, fun h0 => if_pos h0, fun h0 => if_neg h0, rfl,
      fun lv => ?_, tgr_of_requester (.inl (requester_setRequester_self s p .owner)), grantBus_keeps p s⟩
    by_cases hlv : lv = r.level
    · subst hlv
      rw [if_pos rfl]
      exact Vector.getElem_set_self _
    · rw [if_neg hlv]
      exact Vector.getElem_set_ne r.level.isLt lv.isLt fun e => hlv (Fin.ext e.symm)

/-! ### The hold timer and the grace timer -/

theorem hasContender_iff {s : State} {p : Port} : s.hasContender p = true ↔
    ∃ q, s.requester q = .waiting ∧ (s.requesting p).level ≤ (s.requesting q).level := by
  simp [State.hasContender, mem_allPorts]

/-- R103: what asking the owner to yield does. -/
theorem askYield_made {s : State} {f : InForce} (p : Port) (hf : s.arb.inForce = some f) :
    (askYield p s).requesting p = { s.requesting p with req := .yielding } ∧ RequestersBut p s (askYield p s) ∧
      (askYield p s).arb = { s.arb with
        ports := (askYield p s).arb.ports
        graceTimer := { count := f.grace, running := true, due := false }
        overdue := false } ∧
      (askYield p s).tgr p = true ∧ (askYield p s).tyd p = true := by
  obtain ⟨hself, hbut, -, -⟩ := setRequesting_made s p { s.requesting p with req := .yielding }
  have hreq : (askYield p s).requester p = .yielding := requester_setRequester_self s p .yielding
  have hgrace : (askYield p s).arb.graceTimer = { count := f.grace, running := true, due := false } := by
    simp [askYield, hf, Timer.load]
  rw [← hgrace]
  exact ⟨hself, hbut, rfl, tgr_of_requester (.inr hreq), by simp [State.tyd, hreq]⟩

/-- R103: the hold timer's expiry stops it at zero, and the owner is asked to yield or is overdue. -/
theorem takeHoldExpiry_due {s : State} {p : Port} (hbus : s.arb.bus = .owned p) (hreq : s.requester p = .owner)
    (hdue : s.arb.holdTimer.due = true) : takeHoldExpiry s =
      if s.hasContender p = true then askYield p { s with arb := { s.arb with holdTimer := Timer.stopped } }
      else { s with arb := { s.arb with holdTimer := Timer.stopped, overdue := true } } := by
  unfold takeHoldExpiry
  split
  · next q hq =>
    obtain rfl : p = q := by simpa [hbus] using hq
    exact if_pos ⟨hreq, hdue⟩
  · next hno => exact absurd hbus (hno p)

/-- R106: the grace timer's expiry preempts the owner. -/
theorem takePreemption_due {s : State} {p : Port} (hbus : s.arb.bus = .owned p)
    (hreq : s.requester p = .yielding) (hdue : s.arb.graceTimer.due = true) : takePreemption s =
      loseGrant p .preempted (endInHand true (enterFault p s.preemptionFault
        { s with arb := { s.arb with graceTimer := Timer.stopped } })) := by
  unfold takePreemption
  split
  · next q hq =>
    obtain rfl : p = q := by simpa [hbus] using hq
    exact if_pos ⟨hreq, hdue⟩
  · next hno => exact absurd hbus (hno p)

theorem preemptionFault_of_stalled {s : State} {w : PostedWrite} (h : s.stalled = some w) :
    s.preemptionFault = w.fault .preempted := by
  simp [State.preemptionFault, h]

theorem preemptionFault_of_read {s : State} {x : PendingRead} (hs : s.stalled = none) (hx : s.read = some x)
    (hd : x.deliver = true) : s.preemptionFault = x.fault .preempted := by
  simp [State.preemptionFault, hs, hx, hd]

theorem preemptionFault_of_not_inHand {s : State} (h : s.inHand = false) : s.preemptionFault =
    { reason := .preempted, access := none, handle := none, target := none } := by
  obtain ⟨hs, hread⟩ := inHand_eq_false_iff.mp h
  unfold State.preemptionFault
  rw [hs]
  cases hx : s.read with
  | none => rfl
  | some x => simp [hread x hx]

/-- Settles O52. -/
theorem holdAndGraceTimersEnforceTheYield : Obligations.HoldAndGraceTimersEnforceTheYield := by
  refine ⟨fun s p f hlive hbus hreq hf => ?_, fun s p hlive hbus hreq hdue => ?_⟩
  · intro contender yields
    let s1 : State := { s with arb := { s.arb with holdTimer := Timer.stopped } }
    have hstop : KeepsAllBut [.arbiter] s s1 := keeps_arb s _
    have hexec : exec .holdExpiry s = .next (takeHoldExpiry s) := whenLive_live hlive _
    refine ⟨fun hdue => ⟨fun hcon => ?_, fun hcon => ?_⟩, fun hover => ⟨fun hcon => ?_, fun hcon => ?_⟩⟩
    · have htake : takeHoldExpiry s = askYield p s1 :=
        (takeHoldExpiry_due hbus hreq hdue).trans (if_pos (hasContender_iff.mpr hcon))
      obtain ⟨hself, hbut, harb, htgr, htyd⟩ := askYield_made (s := s1) p hf
      refine ⟨askYield p s1, by rw [hexec, htake], ⟨hself, hbut, ?_, htgr, htyd,
        hstop.trans (askYield_keeps p s1)⟩, rfl⟩
      rw [harb]
    · have htake : takeHoldExpiry s = { s1 with arb := { s1.arb with overdue := true } } :=
        (takeHoldExpiry_due hbus hreq hdue).trans (if_neg fun h => hcon (hasContender_iff.mp h))
      exact ⟨_, hexec.trans (congrArg _ htake), rfl, hstop.trans (keeps_arb s1 _)⟩
    · have htest : contenderTest s = askYield p s := by
        simp [contenderTest, hbus, hreq, hover, hasContender_iff.mpr hcon]
      obtain ⟨hself, hbut, harb, htgr, htyd⟩ := askYield_made (s := s) p hf
      rw [htest]
      exact ⟨⟨hself, hbut, harb, htgr, htyd, askYield_keeps p s⟩, rfl⟩
    · have hcon' : ¬ s.hasContender p = true := fun h => hcon (hasContender_iff.mp h)
      unfold contenderTest
      split
      · next q hq =>
        obtain rfl : p = q := by simpa [hbus] using hq
        exact if_neg fun h => hcon' h.2.2
      · rfl
  · let s1 : State := { s with arb := { s.arb with graceTimer := Timer.stopped } }
    let s2 := enterFault p s.preemptionFault s1
    have hstop : KeepsAllBut [.arbiter] s s1 := keeps_arb s _
    have hent : KeepsAllBut [.links] s1 s2 := enterFault_keeps p _ s1
    have hend := endInHand_keeps true s2
    have hlost := grantLost_keeps p .preempted (endInHand true s2)
    have hexec : exec .preemption s = .next (arbitrate (grantLost p .preempted (endInHand true s2))) := by
      have htake : exec .preemption s = .next (takePreemption s) := whenLive_live hlive _
      rw [htake, takePreemption_due hbus hreq hdue, loseGrant_eq]
    obtain ⟨hself, hbut⟩ := enterFault_entered p s.preemptionFault s1
    have hlinks : ∀ q, (grantLost p .preempted (endInHand true s2)).link q = s2.link q := fun q =>
      (hlost.link q).trans (hend.link q)
    have hfault : FaultEntered p s.preemptionFault s (grantLost p .preempted (endInHand true s2)) :=
      ⟨(hlinks p).trans hself, fun q hq => (hlinks q).trans (hbut q hq)⟩
    have harb : (endInHand true s2).arb = s1.arb := hend.arb.trans hent.arb
    have hmade := grantLost_made p .preempted (endInHand true s2)
    rw [harb, State.requesting, harb] at hmade
    refine ⟨_, hexec, hmade.after (fun q _ => by rw [State.requesting, harb]; rfl) (by rw [harb])
        (hend.read.trans hent.read),
      fun w hw => ?_, fun hst x hx hd => ?_, fun hin => ?_, ?_⟩
    · have hin : s2.inHand = true := by
        have hst : s2.stalled = some w := hw
        simp [State.inHand, hst]
      obtain ⟨hst, han⟩ := endInHand_of_inHand hin true
      rw [preemptionFault_of_stalled hw] at hfault
      exact ⟨hlost.stalled.trans hst, hlost.answer.trans han, hfault⟩
    · have hin : s2.inHand = true := by
        have hread : s2.read = some x := hx
        simp [State.inHand, hread, hd]
      obtain ⟨-, han⟩ := endInHand_of_inHand hin true
      rw [preemptionFault_of_read hst hx hd] at hfault
      exact ⟨hlost.answer.trans han, hfault⟩
    · have hin' : s2.inHand = false := hin
      rw [preemptionFault_of_not_inHand hin] at hfault
      refine ⟨?_, hfault⟩
      rw [hlost.answer, endInHand_of_not hin']
      rfl
    · exact (((hstop.mono (by simp)).trans (hent.mono (by simp))).trans (hend.mono (by simp))).trans
        (hlost.mono (by simp))

end Sys2Proof.Machine
end

section
/-! A port reset, of either source. -/

namespace Sys2Proof.Machine

/-- R44, R90: the port link unit holds nothing. -/
structure LinkCleared (s : State) (p : Port) : Prop where
  link : (s.link p).link = .idle
  fault : (s.link p).fault.fault = none
  overrun : (s.link p).overrun = false
  ticket : ∀ k, s.ticket p k = .unused

/-! ### The arbiter at a port reset -/

theorem setRequesting_same (s : State) (p : Port) : s.setRequesting p (s.requesting p) = s := by
  simp [State.setRequesting, State.requesting]

/-- R112: a port without the bus goes IDLE. -/
theorem resetRequester_of_not_tgr {p : Port} {s : State} (h : s.tgr p = false) :
    resetRequester p s = s.setRequester p .idle := by
  unfold resetRequester
  split
  · next hr =>
    have hsame : { s.requesting p with req := .idle } = s.requesting p := by rw [← hr]; rfl
    rw [State.setRequester, hsame, setRequesting_same]
  · rfl
  · rfl
  · next hr => simp [State.tgr, hr] at h
  · next hr => simp [State.tgr, hr] at h

/-- R112, R126: a port with the bus loses it. -/
theorem resetRequester_of_tgr {p : Port} {s : State} (h : s.tgr p = true) :
    resetRequester p s = arbitrate (grantLost p .idle (endInHand true s)) := by
  rw [← loseGrant_eq]
  rcases tgr_eq_true_iff.mp h with h | h <;> simp [resetRequester, h]

theorem sameSettings_resetRequester (p : Port) (s : State) : SameSettings s (resetRequester p s) := by
  cases h : s.tgr p with
  | false => rw [resetRequester_of_not_tgr h]; exact sameSettings_setRequester s p .idle
  | true =>
    rw [resetRequester_of_tgr h]
    exact ((SameSettings.of_keeps (endInHand_keeps true s)).trans (sameSettings_grantLost p .idle _)).trans
      (sameSettings_arbitrate _)

/-! ### The directory at a port reset -/

/-- R89: what becomes of a lease of the port. -/
theorem resetLease_portReset (l : Lease) : ResetLease l l.portReset := by
  refine ⟨fun hp => ?_, fun hs => ?_, fun r b hs => ?_, fun r hs => ?_⟩
  · have hrevoke : l.portReset = Lease.revoke .portReset { l with marks := {} } := by
      rcases hp with h | h <;> simp [Lease.portReset, h]
    rw [hrevoke, Lease.revoke]
    by_cases h0 : l.outstanding = 0
    · rw [if_pos h0, Lease.beginDrain_of_zero (l := { l with marks := {} }) h0]
      simp [Lease.drained]
    · rw [if_neg h0, Lease.beginDrain_of_ne (l := { l with marks := {} }) h0]
  · simp [Lease.portReset, hs]
  · simp [Lease.portReset, hs]
  · simp [Lease.portReset, hs]

theorem ResetLease.bare {l m : Lease} {after : Option Lease} (h : ResetLease l after) (hm : after = some m) :
    m.marks = {} := by
  obtain ⟨hlive, hclosing, hrevoking, hrevoked⟩ := h
  subst hm
  cases hs : l.state with
  | held =>
    have hafter := hlive (.inl hs)
    split at hafter
    · cases hafter
    · rw [Option.some.inj hafter]
  | parked =>
    have hafter := hlive (.inr hs)
    split at hafter
    · cases hafter
    · rw [Option.some.inj hafter]
  | closing => rw [Option.some.inj (hclosing hs)]
  | revoking r b => rw [Option.some.inj (hrevoking r b hs)]
  | revoked r => cases hrevoked r hs

section
variable (p : Port) (s : State)

theorem portResetMade_keepsAfter :
    KeepsAllBut [.directory, .waitList, .links] (resetRequester p s) (portResetMade p s) :=
  (((keeps_entries _ _).mono (by simp)).trans ((keeps_waitList _ _).mono (by simp))).trans
    ((keeps_setLink _ p _).mono (by simp))

theorem entry_portResetMade (i : EntryIx) : (portResetMade p s).entry i = (s.entry i).portReset p := by
  have hsame : (resetRequester p s).entry i = s.entry i := (resetRequester_keeps p s).entry i
  rw [← hsame]
  exact getElem_vmap (Entry.portReset p) (resetRequester p s).entries i

theorem waitList_portResetMade : (portResetMade p s).waitList = s.waitList.filter fun w => w.port != p := by
  rw [← (resetRequester_keeps p s).waitList]
  rfl

theorem link_portResetMade_self : (portResetMade p s).link p = (s.link p).portReset := by
  rw [← (resetRequester_keeps p s).link p]
  exact link_setLink_self _ p _

theorem link_portResetMade_of_ne {q : Port} (h : q ≠ p) : (portResetMade p s).link q = s.link q := by
  rw [← (resetRequester_keeps p s).link q]
  exact link_setLink_of_ne _ _ h

theorem ticket_portResetMade (k : Slot) : (portResetMade p s).ticket p k = .unused := by
  rw [State.ticket, link_portResetMade_self]
  simp [LinkUnit.portReset]

end

theorem Entry.lease_portReset_of_ne {p : Port} {e : Entry} {l : Lease} (hl : e.lease = some l)
    (h : l.holder ≠ p) : e.portReset p = e := by
  unfold Entry.portReset
  rw [hl]
  exact if_neg h

theorem Entry.portReset_of_holder {p : Port} {e : Entry} {l : Lease} (hl : e.lease = some l)
    (h : l.holder = p) : e.portReset p = { e with lease := l.portReset } := by
  unfold Entry.portReset
  rw [hl]
  exact if_pos h

theorem Entry.portReset_of_none {p : Port} {e : Entry} (hl : e.lease = none) : e.portReset p = e := by
  unfold Entry.portReset
  rw [hl]

theorem Entry.generation_portReset (p : Port) (e : Entry) : (e.portReset p).generation = e.generation := by
  unfold Entry.portReset
  split
  · split <;> rfl
  · rfl

/-- R44, R89, R90, R112, R126: what a port reset makes of the state before its scan. -/
theorem portResetMakes (p : Port) (s : State) : PortResetMakes p s (portResetMade p s) := by
  have hafter := portResetMade_keepsAfter p s
  have hreset := resetRequester_keeps p s
  have hlink := link_portResetMade_self p s
  have htransfer : ((portResetMade p s).link p).transfer = (s.link p).transfer.afterPortReset := by
    rw [hlink]; rfl
  have hsettings : SameSettings s (portResetMade p s) :=
    (sameSettings_resetRequester p s).trans (.of_keeps hafter)
  refine ⟨fun i => ?_, fun i hl => ?_, fun i l hl hp => ?_, fun i l hl hp => ?_, waitList_portResetMade p s,
    fun q hq => link_portResetMade_of_ne p s hq, by rw [hlink]; rfl, ticket_portResetMade p s,
    fun r cut hr => ?_, fun hno => ?_, ?_, hsettings, fun htgr => ?_, fun htgr => ⟨?_, fun hin => ?_, fun hin => ?_⟩,
    ?_⟩
  · rw [entry_portResetMade, Entry.generation_portReset]
  · rw [State.lease, entry_portResetMade, Entry.portReset_of_none hl]; exact hl
  · rw [State.lease, entry_portResetMade, Entry.lease_portReset_of_ne hl hp]; exact hl
  · rw [State.lease, entry_portResetMade, Entry.portReset_of_holder hl hp]
    exact resetLease_portReset l
  · rw [htransfer, hr]; rfl
  · rw [htransfer]
    unfold Transfer.afterPortReset
    split
    · next r cut hr => exact absurd hr (hno r cut)
    · rfl
  · rw [hafter.requester]; exact requester_resetRequester p s
  · rw [resetRequester_of_not_tgr htgr] at hafter
    obtain ⟨hself, hbut, -, -⟩ := setRequesting_made s p { s.requesting p with req := .idle }
    refine ⟨(hafter.requesting p).trans hself, fun q hq => (hafter.requesting q).trans (hbut q hq), ?_,
      hafter.read, hafter.stalled, hafter.answer⟩
    rw [hafter.arb]
    rfl
  · rw [resetRequester_of_tgr htgr] at hafter
    have hend := endInHand_keeps true s
    have hmade := grantLost_made p .idle (endInHand true s)
    rw [hend.requesting, hend.arb] at hmade
    exact ⟨_, hmade.after (.of_keeps p hend) (by rw [hend.arb]) hend.read, hafter.arb,
      hafter.read.trans (arbitrate_keeps _).read⟩
  · rw [resetRequester_of_tgr htgr] at hafter
    obtain ⟨hst, han⟩ := endInHand_of_inHand hin true
    have hlost := (grantLost_keeps p .idle (endInHand true s))
    exact ⟨hafter.stalled.trans ((arbitrate_keeps _).stalled.trans (hlost.stalled.trans hst)),
      hafter.answer.trans ((arbitrate_keeps _).answer.trans (hlost.answer.trans han))⟩
  · rw [resetRequester_of_tgr htgr, endInHand_of_not hin] at hafter
    have hlost := grantLost_keeps p .idle s
    exact ⟨hafter.stalled.trans ((arbitrate_keeps _).stalled.trans hlost.stalled),
      hafter.answer.trans ((arbitrate_keeps _).answer.trans hlost.answer)⟩
  · exact (hreset.mono (by simp)).trans (hafter.mono (by simp))

/-! ### The port's lines after a port reset -/

/-- R89: no entry of the port has marks. -/
theorem marks_portResetMade {p : Port} {s : State} {i : EntryIx} {l : Lease}
    (hl : (portResetMade p s).lease i = some l) (hp : l.holder = p) : l.marks = {} := by
  obtain ⟨-, hnone, hother, hown, -⟩ := portResetMakes p s
  cases hs : s.lease i with
  | none => rw [hnone i hs] at hl; cases hl
  | some m =>
    by_cases hm : m.holder = p
    · exact (hown i m hs hm).bare hl
    · rw [hother i m hs hm] at hl
      obtain rfl := Option.some.inj hl
      exact absurd hp hm

theorem marked_scan_portResetMade (p : Port) (s : State) (i : EntryIx) :
    (scan (portResetMade p s)).marked p i = false := by
  rw [State.marked, Option.any_eq_false]
  intro l hl
  by_cases hp : l.holder = p
  · have hmarks : l.marks = {} := by
      rcases lease_scan_cases hl with h | ⟨-, w, -, rfl, -⟩
      · exact marks_portResetMade h hp
      · rfl
    rw [hmarks]
    simp [Marks.any]
  · simp [hp]

/-- R44: the port's tickets after the scan. -/
theorem ticket_scan_portResetMade (p : Port) (s : State) (k : Slot) :
    (scan (portResetMade p s)).ticket p k = .unused := by
  obtain ⟨granted, hscan⟩ := scan_scanned (portResetMade p s)
  rw [hscan.ticket p k, ticket_portResetMade]
  refine countP_isOf_eq_zero fun w hw hpk => ?_
  rw [waitList_portResetMade, List.mem_filter] at hw
  simp [hpk.1] at hw

/-- R90, R178: the port's output lines are low after a port reset. -/
theorem lines_after_portReset {p : Port} {s t : State} (hk : KeepsAllBut [.links] (scan (portResetMade p s)) t)
    (hclear : LinkCleared t p) :
    t.attn p = false ∧ t.rdy p = false ∧ t.tgr p = false ∧ t.tyd p = false := by
  have hreq : t.requester p = .idle := by
    rw [hk.requester, (scan_keeps _).requester, (portResetMade_keepsAfter p s).requester,
      requester_resetRequester]
  have htyd : t.tyd p = false := by simp [State.tyd, hreq]
  have hmarked : ∀ i, t.marked p i = false := fun i => by
    rw [State.marked, hk.lease]; exact marked_scan_portResetMade p s i
  refine ⟨?_, by simp [State.rdy, hclear.link], by simp [State.tgr, hreq], htyd⟩
  simp [State.attn, hclear.fault, hclear.overrun, hclear.ticket, htyd, Ticket.attends, hmarked]

/-! ### PRSTn -/

theorem link_scan_portResetMade (p : Port) (s : State) : (scan (portResetMade p s)).link p =
    { (s.link p).portReset with tickets := ((scan (portResetMade p s)).link p).tickets } := by
  rw [scan_link, link_portResetMade_self]

/-- R168, R169: a transfer under way when PRSTn falls. -/
theorem Transfer.afterPrst_afterPortReset (x : Transfer) (selected : Bool) :
    x.afterPortReset.afterPrst selected = x.afterPrst selected := by
  rcases x with _ | _ | ⟨_ | _, _⟩ | _ <;> rfl

/-! ### PORT_RESET -/

theorem exec_portReset {s : State} {tag port : Byte} (hlive : s.resetLow = false)
    (hin : InHandIs s 0 tag (.portReset port)) : exec .portReset s = .next (takePortReset port s) := by
  have hexec : exec .portReset s = execPortReset s := rfl
  rw [hexec, execPortReset, whenLive_live hlive, supervisorPort, handed_inHand hin]

/-- R35: a scan adds HELD leases only, so that it leaves a count of others. -/
theorem countLeases_scan {s : State} {f : Lease → Bool} (hf : ∀ l, l.state = .held → f l = false) :
    (scan s).countLeases f = s.countLeases f := by
  refine countLeases_congr fun i => ?_
  cases hs : s.lease i with
  | some l => rw [State.lease, scan_entry hs]; exact congrArg (Option.any f) hs
  | none =>
    cases ht : (scan s).lease i with
    | none => rfl
    | some l =>
      rcases lease_scan_cases ht with h | ⟨-, w, -, rfl, -⟩
      · rw [hs] at h; cases h
      · exact hf _ rfl

theorem countLeases_eq (s : State) {f g : Lease → Bool} (h : ∀ l, f l = g l) : s.countLeases f = s.countLeases g :=
  congrArg s.countLeases (funext h)

theorem Lease.isTombstoneOf_eq (p : Port) (l : Lease) :
    l.isTombstoneOf p = (l.holder == p && !l.occupying) := by
  unfold Lease.isTombstoneOf Lease.occupying
  cases l.state <;> simp

/-- Settles O42. -/
theorem portResetClearsThePort : Obligations.PortResetClearsThePort := by
  refine ⟨fun s p selected hlive hprst => ?_, fun s p selected hlive hprst => ?_,
    fun s tag port hlive hin => ⟨fun hport => ?_, fun p hport hp => ?_⟩⟩
  · let v := scan (portResetMade p s)
    let t := v.setLink p { v.link p with
      prstLow := true, transfer := (v.link p).transfer.afterPrst selected }
    have hlinkv : v.link p = { (s.link p).portReset with tickets := (v.link p).tickets } :=
      link_scan_portResetMade p s
    have htransfer : (v.link p).transfer = (s.link p).transfer.afterPortReset := by rw [hlinkv]; rfl
    have hlink : t.link p = { v.link p with
        prstLow := true, transfer := (v.link p).transfer.afterPrst selected } := link_setLink_self v p _
    have hk : KeepsAllBut [.links] v t := keeps_setLink v p _
    have hidle : (t.link p).link = .idle := by rw [hlink, hlinkv]; rfl
    have htickets : ∀ k, t.ticket p k = .unused := fun k => by
      rw [State.ticket, hlink]; exact ticket_scan_portResetMade p s k
    have hexec : exec (.prstLow p selected) s = .next t := by
      have htake : exec (.prstLow p selected) s = .next (takePrstLow p selected s) := whenLive_live hlive _
      rw [htake, takePrstLow, if_neg (by simp [hprst]), portReset_eq]
    refine ⟨portResetMade p s, t, hexec, portResetMakes p s, hk, fun q hq => link_setLink_of_ne v _ hq, ?_, hidle,
      htickets, lines_after_portReset hk
        ⟨hidle, by rw [hlink, hlinkv]; rfl, by rw [hlink, hlinkv]; rfl, htickets⟩⟩
    rw [hlink, htransfer, Transfer.afterPrst_afterPortReset]
    rfl
  · have htake : exec (.prstLow p selected) s = .next (takePrstLow p selected s) := whenLive_live hlive _
    rw [htake, takePrstLow, if_pos hprst]
  · refine exec_refused hin ?_
    rw [exec_portReset hlive hin, takePortReset]
    rcases hport with rfl | hport
    · rfl
    · rw [indexOf_eq_none hport]; rfl
  · intro count
    have hne : (0 : Port) ≠ p := fun e => hp e.symm
    have hin' : InHandIs (scan (portResetMade p s)) 0 tag (.portReset port) :=
      inHandIs_scan (by rw [InHandIs, link_portResetMade_of_ne p s hne]; exact hin)
    let res : List Byte := [port, count s (·.running), count s (fun l => !l.occupying),
      count (portResetMade p s) (·.draining), byteOf (s.waitList.countP fun w => w.port == p)]
    have hans := respond_answered hin' .ok res
    have hk := respond_keeps 0 .ok res (scan (portResetMade p s))
    have hlinkp : (respond 0 .ok res (scan (portResetMade p s))).link p =
        { (s.link p).portReset with tickets := ((scan (portResetMade p s)).link p).tickets } :=
      (hans.2 p hp).trans (link_scan_portResetMade p s)
    have htickets : ∀ k, (respond 0 .ok res (scan (portResetMade p s))).ticket p k = .unused := fun k =>
      (sameTickets_respond 0 .ok res _ p k).trans (ticket_scan_portResetMade p s k)
    refine ⟨portResetMade p s, respond 0 .ok res (scan (portResetMade p s)), ?_, portResetMakes p s, hans, hk,
      lines_after_portReset hk ⟨by rw [hlinkp]; rfl, by rw [hlinkp]; rfl, by rw [hlinkp]; rfl, htickets⟩⟩
    have hlive' : s.countLeases (·.liveOf p) = s.countLeases fun l => l.holder == p && l.running :=
      countLeases_eq s fun l => Bool.and_comm ..
    have htomb : s.countLeases (·.isTombstoneOf p) = s.countLeases fun l => l.holder == p && !l.occupying :=
      countLeases_eq s fun l => l.isTombstoneOf_eq p
    have hdrain : (scan (portResetMade p s)).countLeases (·.drainingOf p) =
        (portResetMade p s).countLeases fun l => l.holder == p && l.draining :=
      (countLeases_scan fun l hl => by simp [Lease.drainingOf, Lease.draining, hl]).trans
        (countLeases_eq _ fun l => Bool.and_comm ..)
    rw [exec_portReset hlive hin, takePortReset, indexOf_eq_some hport]
    dsimp only
    have hsuper : p ≠ supervisorPort := hp
    rw [if_neg hsuper, portReset_eq, hlive', htomb, hdrain]
    rfl

end Sys2Proof.Machine
end

section
/-! The supervisor's settings, and the reports of the records. -/

namespace Sys2Proof.Machine

/-! ### A change of another part, and an answer -/

/-- R170: a part other than the port link units changes, and the command in hand is answered. -/
theorem changed_respond {may : List Part} {s u : State} {p : Port} {tag : Byte} {r : Request}
    (hin : InHandIs s p tag r) (hk : KeepsAllBut may s u) (hp : .links ∉ may) (st : Status) (res : List Byte) :
    Answered p tag st res s (respond p st res u) ∧ KeepsAllBut (may ++ [.links]) s (respond p st res u) := by
  obtain ⟨hlink, hlinks⟩ := respond_answered (hin.of_keeps hk hp) st res
  exact ⟨⟨hlink.trans (by rw [hk.link p hp]), fun q hq => (hlinks q hq).trans (hk.link q hp)⟩,
    (hk.mono (by simp)).trans ((respond_keeps p st res u).mono (by simp))⟩

section
variable {s : State} {tag : Byte}

theorem exec_setQuota {port q : Byte} (hlive : s.resetLow = false) (hin : InHandIs s 0 tag (.setQuota port q)) :
    exec .setQuota s = .next (takeSetQuota port q s) := by
  have hexec : exec .setQuota s = execSetQuota s := rfl
  rw [hexec, execSetQuota, whenLive_live hlive, supervisorPort, handed_inHand hin]

theorem exec_setTimebase {k : Byte} (hlive : s.resetLow = false) (hin : InHandIs s 0 tag (.setTimebase k)) :
    exec .setTimebase s = .next (takeSetTimebase k s) := by
  have hexec : exec .setTimebase s = execSetTimebase s := rfl
  rw [hexec, execSetTimebase, whenLive_live hlive, supervisorPort, handed_inHand hin]

theorem exec_setPriority {port lv : Byte} (hlive : s.resetLow = false)
    (hin : InHandIs s 0 tag (.setPriority port lv)) :
    exec .setPriority s = .next (takeSetPriority port lv s) := by
  have hexec : exec .setPriority s = execSetPriority s := rfl
  rw [hexec, execSetPriority, whenLive_live hlive, supervisorPort, handed_inHand hin]

theorem exec_setHold {port : Byte} {hold : BitVec 16} {grace : Byte} (hlive : s.resetLow = false)
    (hin : InHandIs s 0 tag (.setHold port hold grace)) :
    exec .setHold s = .next (takeSetHold port hold grace s) := by
  have hexec : exec .setHold s = execSetHold s := rfl
  rw [hexec, execSetHold, whenLive_live hlive, supervisorPort, handed_inHand hin]

/-- R18: SET_QUOTA out of range. -/
theorem takeSetQuota_badArgument {port q : Byte} (h : 6 ≤ port.toNat ∨ q = 0x00 ∨ 32 < q.toNat) :
    takeSetQuota port q s = respond 0 .badArgument [] s := by
  unfold takeSetQuota
  split
  · rfl
  · next p hp =>
    have hq : q.toNat < 1 ∨ 32 < q.toNat := by
      rcases h with h | rfl | h
      · rw [indexOf_eq_none h] at hp; cases hp
      · exact .inl (by decide)
      · exact .inr h
    exact if_pos hq

theorem takeSetQuota_inRange {port q : Byte} {p : Port} (hport : port.toNat = p.val) (hlow : 1 ≤ q.toNat)
    (hhigh : q.toNat ≤ 32) : takeSetQuota port q s =
      if q.toNat < s.charge p then respond 0 .inUse [port, byteOf (s.quota p), byteOf (s.charge p)] s
      else respond 0 .ok [port, q, byteOf (s.charge p)] { s with quotas := s.quotas.set p q.toNat } := by
  unfold takeSetQuota
  rw [indexOf_eq_some hport]
  exact if_neg (by omega)

theorem takeSetPriority_badArgument {port lv : Byte} (h : 6 ≤ port.toNat ∨ 4 ≤ lv.toNat) :
    takeSetPriority port lv s = respond 0 .badArgument [] s := by
  unfold takeSetPriority
  split
  · next p n hp hn =>
    rcases h with h | h
    · rw [indexOf_eq_none h] at hp; cases hp
    · rw [indexOf_eq_none h] at hn; cases hn
  · rfl

theorem requester_eq (s : State) (p : Port) : s.requester p = (s.requesting p).req := rfl

theorem takeSetHold_badArgument {port grace : Byte} {hold : BitVec 16}
    (h : 6 ≤ port.toNat ∨ 4095 < hold.toNat ∨ grace = 0x00) :
    takeSetHold port hold grace s = respond 0 .badArgument [] s := by
  unfold takeSetHold
  split
  · next p hp =>
    refine if_neg fun ⟨hhold, hgrace⟩ => ?_
    rcases h with h | h | h
    · rw [indexOf_eq_none h] at hp; cases hp
    · omega
    · exact hgrace h
  · rfl

end

/-- Settles O43. -/
theorem settingsAreSet : Obligations.SettingsAreSet := by
  refine ⟨rfl, fun s tag port q hlive hin => ⟨fun hbad => exec_refused hin ?_, fun p hport hlow hhigh => ?_⟩,
    fun s tag k hlive hin => ⟨fun hbad => exec_refused hin ?_, fun hk => ?_⟩,
    fun s tag port lv hlive hin => ⟨fun hbad => exec_refused hin ?_, fun p n hport hlv => ?_⟩,
    fun s tag port hold grace hlive hin => ⟨fun hbad => exec_refused hin ?_, fun p hport hhold hgrace => ?_⟩⟩
  · rw [exec_setQuota hlive hin, takeSetQuota_badArgument hbad]
  · have hexec := (exec_setQuota hlive hin).trans (congrArg _ (takeSetQuota_inRange hport hlow hhigh))
    refine ⟨fun hlt => exec_refused hin (hexec.trans (congrArg _ (if_pos hlt))), fun hle => ?_⟩
    obtain ⟨hans, hkeeps⟩ := changed_respond hin (keeps_quotas s (s.quotas.set p q.toNat)) (by simp) .ok
      [port, q, byteOf (s.charge p)]
    have hquota := fun r => (respond_keeps 0 .ok [port, q, byteOf (s.charge p)]
      { s with quotas := s.quotas.set p q.toNat }).quota r
    refine ⟨_, hexec.trans (congrArg _ (if_neg (not_lt.mpr hle))), (hquota p).trans ?_,
      fun r hr => (hquota r).trans ?_, hans, hkeeps⟩
    · exact Vector.getElem_set_self _
    · exact Vector.getElem_set_ne p.isLt r.isLt fun e => hr (Fin.ext e.symm)
  · rw [exec_setTimebase hlive hin, takeSetTimebase, if_pos hbad]
    rfl
  · obtain ⟨hans, hkeeps⟩ := changed_respond hin (keeps_clock s { s.clock with pendingK := some k.toNat })
      (by simp) .ok [byteOf s.clock.k, k]
    refine ⟨_, ?_, (respond_keeps _ _ _ _).clock, hans, hkeeps⟩
    rw [exec_setTimebase hlive hin, takeSetTimebase, if_neg (not_lt.mpr hk)]
    rfl
  · rw [exec_setPriority hlive hin, takeSetPriority_badArgument hbad]
  · let u := s.setRequesting p { s.requesting p with level := n }
    obtain ⟨hself, hbut, harb, hkeeps⟩ := setRequesting_made s p { s.requesting p with level := n }
    have hin' : InHandIs (contenderTest u) 0 tag (.setPriority port lv) :=
      (hin.of_keeps hkeeps).of_keeps (contenderTest_keeps u)
    refine ⟨u, _, ?_, hself, hbut, harb, hkeeps, respond_answered hin' _ _, respond_keeps _ _ _ _⟩
    rw [exec_setPriority hlive hin, takeSetPriority, indexOf_eq_some hport, indexOf_eq_some hlv]
    rfl
  · rw [exec_setHold hlive hin, takeSetHold_badArgument hbad]
  · obtain ⟨hself, hbut, harb, hkeeps⟩ := setRequesting_made s p
      { s.requesting p with hold := hold.toNat, grace := grace.toNat }
    obtain ⟨hans, hall⟩ := changed_respond hin hkeeps (by simp) .ok
      [port, hold.extractLsb' 8 8, hold.extractLsb' 0 8, grace, (s.requester p).code]
    have hres := respond_keeps 0 .ok [port, hold.extractLsb' 8 8, hold.extractLsb' 0 8, grace, (s.requester p).code]
      (s.setRequesting p { s.requesting p with hold := hold.toNat, grace := grace.toNat })
    refine ⟨_, ?_, (hres.requesting p).trans hself, fun r hr => (hres.requesting r).trans (hbut r hr), ?_, hans, hall⟩
    · have hreq : (s.setRequesting p { s.requesting p with hold := hold.toNat, grace := grace.toNat }).requester p =
          s.requester p := by
        rw [requester_eq, hself]; rfl
      rw [exec_setHold hlive hin, takeSetHold, indexOf_eq_some hport]
      dsimp only
      rw [if_pos ⟨hhold, hgrace⟩, hreq]
      rfl
    · rw [hres.arb]; exact harb

/-! ### The reports -/

/-- R20: the bytes of an entry that is not FREE. -/
def heldBytes (i : EntryIx) (g : Byte) (l : Lease) : List Byte :=
  [byteOf i, g, l.state.code, byteOf l.holder, byteOf l.claim.target] ++
    word16 l.claim.window.base ++ word16 l.claim.window.count ++
    [l.claim.cls.code, balanceByte l.balance] ++ word16 l.interval ++
    [byteOf l.outstanding, l.marks.byte, reasonByte l.state.reason]

theorem entryRecord_some {i : EntryIx} {e : Entry} {g : Byte} {l : Lease}
    (h : e = { generation := g, lease := some l }) : entryRecord i e = heldBytes i g l := by
  subst h
  rfl

theorem reasonByte_reason (st : LeaseState) : reasonByte st.reason = match st with
    | .revoking r _ => r.code
    | .revoked r => r.code
    | _ => 0x00 := by
  cases st <;> rfl

theorem length_word16 (n : Nat) : (word16 n).length = 2 := rfl

theorem length_heldBytes (i : EntryIx) (g : Byte) (l : Lease) : (heldBytes i g l).length = 16 := by
  simp [heldBytes, length_word16]

theorem length_settingsBytes (x : Option Settings) : (settingsBytes x).length = 17 := by
  cases x with
  | none => rfl
  | some x =>
    cases hp : x.probe <;> simp [settingsBytes, hp, length_word16, bytes24, bytes32]

theorem length_targetRecordBytes (s : State) (t : TargetIx) : (targetRecordBytes s t).length = 28 := by
  cases hw : (s.target t).probeResult <;>
    simp [targetRecordBytes, hw, length_settingsBytes, bytes32]

theorem exec_directoryRead {s : State} {tag index : Byte} (hlive : s.resetLow = false)
    (hin : InHandIs s 0 tag (.directoryRead index)) :
    exec .directoryRead s = .next (takeDirectoryRead index s) := by
  have hexec : exec .directoryRead s = execDirectoryRead s := rfl
  rw [hexec, execDirectoryRead, whenLive_live hlive, supervisorPort, handed_inHand hin]

theorem exec_targetStatus {s : State} {tag target : Byte} (hlive : s.resetLow = false)
    (hin : InHandIs s 0 tag (.targetStatus target)) :
    exec .targetStatus s = .next (takeTargetStatus target s) := by
  have hexec : exec .targetStatus s = execTargetStatus s := rfl
  rw [hexec, execTargetStatus, whenLive_live hlive, supervisorPort, handed_inHand hin]

/-- A byte that spells an index is that index's byte. -/
theorem byteOf_of_toNat {b : Byte} {n : Nat} (h : b.toNat = n) : byteOf n = b := by
  subst h
  exact BitVec.eq_of_toNat_eq (by simp [byteOf])

/-- Settles O44. -/
theorem reportsReturnTheRecord : Obligations.ReportsReturnTheRecord := by
  unfold Obligations.ReportsReturnTheRecord
  intro held
  have hheld : ∀ i g l, held i g l = heldBytes i g l := fun i g l => by
    simp only [held, heldBytes, reasonByte_reason]
    rfl
  refine ⟨fun s p tag h i l hlive hin hnames hholder => ?_, fun s tag index hlive hin => ⟨fun hbad => ?_,
    fun i g hindex => ⟨fun l hentry => ?_, fun hentry => ?_⟩⟩, fun s tag target hlive hin => ⟨fun hbad => ?_,
    fun u htarget => ?_⟩, fun r b => rfl, rfl, rfl, rfl, rfl⟩
  · obtain ⟨hbecomes, hans, hkeeps⟩ := setLease_respond hin hnames.2
      (some { l with marks := { expiryNear := false, revoked := l.marks.revoked, writeLost := false } }) .ok
      (held i h.generation l)
    refine ⟨_, ?_, hbecomes, hans, by rw [hheld, length_heldBytes], hkeeps⟩
    rw [exec_status hlive hin, withHandle_taken hnames hholder rfl, actStatus, entryRecord_some hnames.2, hheld]
  · refine exec_refused hin ?_
    rw [exec_directoryRead hlive hin, takeDirectoryRead, indexOf_eq_none hbad]
    rfl
  · refine exec_refused hin ?_
    rw [exec_directoryRead hlive hin, takeDirectoryRead, indexOf_eq_some hindex, hheld]
    dsimp only
    rw [entryRecord_some hentry]
    rfl
  · refine exec_refused hin ?_
    rw [exec_directoryRead hlive hin, takeDirectoryRead, indexOf_eq_some hindex]
    dsimp only
    rw [hentry]
    rfl
  · refine exec_refused hin ?_
    rw [exec_targetStatus hlive hin, takeTargetStatus, indexOf_eq_none hbad]
    rfl
  · intro r settings probe bytes
    have hbytes : bytes = targetRecordBytes s u := by
      simp only [bytes, targetRecordBytes, byteOf_of_toNat htarget]
      rfl
    refine ⟨_, ?_, respond_answered hin .ok bytes, by rw [hbytes, length_targetRecordBytes],
      respond_keeps 0 .ok bytes s⟩
    rw [exec_targetStatus hlive hin, takeTargetStatus, indexOf_eq_some htarget, hbytes]
    rfl

end Sys2Proof.Machine
end

section
/-! CONFIGURE_TARGET and RELEASE_TARGET. -/

namespace Sys2Proof.Machine

/-! ### The arguments of CONFIGURE_TARGET -/

theorem windowOf_eq_some {most : Nat} {base count : BitVec 16} (hlow : count.toNat ≠ 0) (hhigh : count.toNat ≤ most)
    (hlast : base.toNat + count.toNat - 1 ≤ 0xFFF) :
    windowOf most base count = some { base := base.toNat, count := count.toNat } := if_pos (by omega)

/-- R150: an argument of CONFIGURE_TARGET is out of range. -/
def ArgsOutOfRange (a : TargetArgs) : Prop :=
  3 < a.target.toNat ∨ a.count.toNat = 0 ∨ 4096 < a.count.toNat ∨ 0xFFF < a.base.toNat + a.count.toNat - 1 ∨
    15 < a.waitStates.toNat ∨ a.readyTimeout.toNat < 16 ∨ 4096 < a.readyTimeout.toNat ∨
    a.readyTimeout.toNat % 16 ≠ 0 ∨ a.term.toNat = 0 ∨
    (a.probeEnable ≠ 0x00 ∧ a.probeEnable ≠ 0x01) ∨
    (a.probeEnable = 0x01 ∧ (a.probeAddress.toNat % 4 ≠ 0 ∨ a.probeAddress.toNat / 4096 < a.base.toNat ∨
      a.base.toNat + a.count.toNat - 1 < a.probeAddress.toNat / 4096))

/-- R150: the settings that the arguments spell. -/
def argsSettings (a : TargetArgs) : Settings :=
  { span := { base := a.base.toNat, count := a.count.toNat }
    waitStates := a.waitStates.toNat
    readyTimeout := a.readyTimeout.toNat
    term := a.term.toNat
    probe := if a.probeEnable = 0x01 then some { address := a.probeAddress, signature := a.signature } else none }

/-- R150: the arguments in range spell the settings. -/
theorem settingsOf_eq_some {a : TargetArgs} {v : TargetIx} (hv : a.target.toNat = v.val) (h : ¬ ArgsOutOfRange a) :
    settingsOf a = some (v, argsSettings a) := by
  simp only [ArgsOutOfRange, not_or] at h
  obtain ⟨-, hcount, hmost, hlast, hwait, hlow, hhigh, hmod, hterm, henable, hprobe⟩ := h
  have htiming : a.waitStates.toNat ≤ 15 ∧ 16 ≤ a.readyTimeout.toNat ∧ a.readyTimeout.toNat ≤ 4096 ∧
      a.readyTimeout.toNat % 16 = 0 ∧ a.term.toNat ≠ 0 := by omega
  unfold settingsOf
  rw [indexOf_eq_some hv, windowOf_eq_some hcount (by omega) (by omega)]
  dsimp only
  rw [if_pos htiming]
  by_cases h0 : a.probeEnable = 0x00
  · rw [if_pos h0]
    simp [argsSettings, h0]
  · have h1 : a.probeEnable = 0x01 := by
      by_contra h1
      exact henable ⟨h0, h1⟩
    have hpage : a.probeEnable = 0x01 ∧ a.probeAddress.toNat % 4 = 0 ∧
        Window.hasPage { base := a.base.toNat, count := a.count.toNat } (pageOf a.probeAddress) = true := by
      rw [Window.hasPage, decide_eq_true_eq, pageOf_eq, Window.last]
      have hrange := not_and.mp hprobe h1
      exact ⟨h1, by dsimp only; omega⟩
    rw [if_neg h0, if_pos hpage]
    simp [argsSettings, h1]

/-- R150: the arguments out of range spell none. -/
theorem settingsOf_eq_none {a : TargetArgs} (h : ArgsOutOfRange a) : settingsOf a = none := by
  unfold settingsOf
  split
  · next t span ht hspan =>
    have htarget : ¬ 3 < a.target.toNat := fun hbad => by
      rw [indexOf_eq_none hbad] at ht; cases ht
    have hwindow : ¬ (a.count.toNat = 0 ∨ 4096 < a.count.toNat ∨ 0xFFF < a.base.toNat + a.count.toNat - 1) :=
      fun hbad => by rw [windowOf_eq_none_iff.mpr hbad] at hspan; cases hspan
    rw [not_or, not_or] at hwindow
    obtain ⟨hcount, hmost, hlast⟩ := hwindow
    split
    · next htiming =>
      obtain ⟨hwait, hlow, hhigh, hmod, hterm⟩ := htiming
      have hprobe : (a.probeEnable ≠ 0x00 ∧ a.probeEnable ≠ 0x01) ∨
          (a.probeEnable = 0x01 ∧ (a.probeAddress.toNat % 4 ≠ 0 ∨ a.probeAddress.toNat / 4096 < a.base.toNat ∨
            a.base.toNat + a.count.toNat - 1 < a.probeAddress.toNat / 4096)) := by
        simpa only [ArgsOutOfRange, htarget, hcount, hmost, hlast, hterm, not_lt.mpr hwait, not_lt.mpr hlow,
          not_lt.mpr hhigh, hmod, ne_eq, not_true_eq_false, false_or] using h
      dsimp only
      split
      · next h0 => simp [h0] at hprobe
      · next h0 =>
        refine if_neg fun ⟨h1, halign, hpage⟩ => ?_
        rw [windowOf_eq_some hcount (by omega) (by omega)] at hspan
        obtain rfl := Option.some.inj hspan
        rw [Window.hasPage, decide_eq_true_eq, pageOf_eq, Window.last] at hpage
        obtain ⟨-, hbad⟩ := hprobe.resolve_left fun hno => hno.2 h1
        dsimp only at hpage
        omega
    · rfl
  · rfl

/-! ### The checks -/

/-- R151: when a target is busy. -/
theorem targetBusy_iff {s : State} {v : TargetIx} : s.targetBusy v = true ↔ (s.target v).state = .probing ∨
    ∃ i l, s.lease i = some l ∧ l.occupying = true ∧ l.claim.target = v := by
  simp [State.targetBusy, State.occupants, State.countLeases, List.countP_pos_iff, mem_allEntries,
    Option.any_eq_true]

/-- R152: the lowest-numbered other target whose span overlaps. -/
theorem overlapping_eq_some {s : State} {v w : TargetIx} {x : Window}
    (hw : w ≠ v ∧ ∃ b, s.span w = some b ∧ x.overlaps b = true)
    (hlow : ∀ z, z < w → ¬ (z ≠ v ∧ ∃ b, s.span z = some b ∧ x.overlaps b = true)) :
    s.overlapping v x = some w := by
  have htest : ∀ z, (z != v && (s.span z).any x.overlaps) = true ↔
      z ≠ v ∧ ∃ b, s.span z = some b ∧ x.overlaps b = true := fun z => by
    rw [Bool.and_eq_true, bne_iff_ne, Option.any_eq_true]
  refine find?_eq_lowest (by decide) (mem_allTargets w) ((htest w).mpr hw) fun z hz => ?_
  rw [← Bool.not_eq_true, htest]
  exact hlow z hz

/-! ### A new record -/

/-- R153, R157: the record replaced or removed, and the waiters of the target refused. -/
def State.rerecorded (s : State) (v : TargetIx) (r : TargetRecord) : State :=
  refuseWaiters (fun w => w.claim.target == v) .targetDown (s.setTarget v r)

section
variable (s : State) (v : TargetIx) (r : TargetRecord)

theorem rerecorded_keeps : KeepsAllBut [.targets, .waitList, .links] s (s.rerecorded v r) :=
  ((keeps_setTarget s v r).mono (by simp)).trans ((refuseWaiters_keeps _ _ _).mono (by simp))

theorem target_rerecorded_self : (s.rerecorded v r).target v = r :=
  ((refuseWaiters_keeps _ _ _).target v).trans (target_setTarget_self s v r)

theorem targetsBut_rerecorded : TargetsBut v s (s.rerecorded v r) := fun _ hu =>
  ((refuseWaiters_keeps _ _ _).target _).trans (target_setTarget_of_ne s r hu)

theorem waitList_rerecorded :
    (s.rerecorded v r).waitList = s.waitList.filter fun w => w.claim.target != v :=
  waitList_refuseWaiters _ _ _

theorem ticket_rerecorded (p : Port) (k : Slot) : (s.rerecorded v r).ticket p k =
    if s.waitList.any (fun w => w.claim.target == v && w.port == p && w.slot == k) then .refused .targetDown
    else s.ticket p k := ticket_refuseWaiters _ _ _ p k

theorem link_rerecorded (p : Port) :
    (s.rerecorded v r).link p = { s.link p with tickets := ((s.rerecorded v r).link p).tickets } :=
  link_refuseWaiters _ _ _ p

end

theorem inHandIs_rerecorded {s : State} {p : Port} {tag : Byte} {q : Request} (h : InHandIs s p tag q)
    (v : TargetIx) (r : TargetRecord) : InHandIs (s.rerecorded v r) p tag q := by
  rw [InHandIs, link_rerecorded]; exact h

/-! ### The placing of a probe -/

/-- R153: the probe slot filled, and the engine's choice made. -/
def State.probing (s : State) (v : TargetIx) (y : ProbeSetting) : State :=
  startNext (s.setProbe v (some { address := y.address, captured := none }))

section
variable (s : State) (v : TargetIx) (y : ProbeSetting)

theorem probing_keeps : KeepsAllBut [.probes, .current] s (s.probing v y) :=
  ((keeps_setProbe s v _).mono (by simp)).trans ((startNext_keeps _).mono (by simp))

theorem probe_probing_self : (s.probing v y).probe v = some { address := y.address, captured := none } :=
  ((startNext_keeps _).probe v).trans (probe_setProbe_self s v _)

theorem probe_probing_of_ne {w : TargetIx} (h : w ≠ v) : (s.probing v y).probe w = s.probe w :=
  ((startNext_keeps _).probe w).trans (probe_setProbe_of_ne s _ h)

theorem current_probing_ne_none : (s.probing v y).current ≠ none := fun hnone => by
  obtain ⟨-, -, hempty⟩ := empty_of_startNext hnone
  have hfull := probe_probing_self s v y
  rw [State.probing, hempty v] at hfull
  cases hfull

theorem current_probing_of_some {c : Current} (hc : s.current = some c) : (s.probing v y).current = some c := by
  rw [State.probing, startNext_of_current (s := s.setProbe v _) hc]
  exact hc

/-- R134: in an engine that holds nothing the probe starts at once. -/
theorem current_probing_of_empty (hc : s.current = none) (he : Empty s) :
    (s.probing v y).current = some (s.starting (.probe v) v) := by
  obtain ⟨hqueue, hread, hprobe⟩ := he
  have hnext : (s.setProbe v (some { address := y.address, captured := none })).nextHolding =
      some (.probe v, v) := by
    have hq : (s.setProbe v (some { address := y.address, captured := none })).queue = [] := hqueue
    have hr : (s.setProbe v (some { address := y.address, captured := none })).read = none := hread
    have hfind : (allTargets.find? fun t =>
        ((s.setProbe v (some { address := y.address, captured := none })).probe t).isSome) = some v :=
      find?_eq_lowest (by decide) (mem_allTargets v) (by simp) fun j hj => by
        rw [probe_setProbe_of_ne s _ hj.ne, hprobe]; rfl
    rw [State.nextHolding, hq, hr]
    dsimp only
    rw [hfind]
    rfl
  rw [State.probing, startNext_of_nextHolding (s := s.setProbe v _) hc hnext]
  rfl

end

/-! ### CONFIGURE_TARGET -/

section
variable {s : State} {tag : Byte}

theorem exec_configureTarget {a : TargetArgs} (hlive : s.resetLow = false)
    (hin : InHandIs s 0 tag (.configureTarget a)) :
    exec .configureTarget s = .next (takeConfigureTarget a s) := by
  have hexec : exec .configureTarget s = execConfigureTarget s := rfl
  rw [hexec, execConfigureTarget, whenLive_live hlive, supervisorPort, handed_inHand hin]

theorem exec_releaseTarget {target : Byte} (hlive : s.resetLow = false)
    (hin : InHandIs s 0 tag (.releaseTarget target)) :
    exec .releaseTarget s = .next (takeReleaseTarget target s) := by
  have hexec : exec .releaseTarget s = execReleaseTarget s := rfl
  rw [hexec, execReleaseTarget, whenLive_live hlive, supervisorPort, handed_inHand hin]

end

/-- R153: an accepted CONFIGURE_TARGET before its scan. -/
def State.configured (s : State) (v : TargetIx) (x : Settings) : State :=
  match x.probe with
  | some y => (s.rerecorded v x.record).probing v y
  | none => s.rerecorded v x.record

theorem configured_of_probe {s : State} {v : TargetIx} {x : Settings} {y : ProbeSetting}
    (h : x.probe = some y) : s.configured v x = (s.rerecorded v x.record).probing v y := by
  simp [State.configured, h]

theorem configured_of_none {s : State} {v : TargetIx} {x : Settings} (h : x.probe = none) :
    s.configured v x = s.rerecorded v x.record := by
  simp [State.configured, h]

theorem configured_keepsAfter (s : State) (v : TargetIx) (x : Settings) :
    KeepsAllBut [.probes, .current] (s.rerecorded v x.record) (s.configured v x) := by
  unfold State.configured
  split
  · exact probing_keeps _ _ _
  · exact .refl _ _

/-- R153: one scan, if waiters were refused or the target is READY at once. -/
theorem configure_eq (v : TargetIx) (x : Settings) (s : State) : configure v x s =
    respond 0 .ok [byteOf v, if x.probe.isSome then 0x01 else 0x02, byteOf (s.waitersFor v)]
      (if s.waitersFor v = 0 ∧ x.probe.isSome = true then s.configured v x else scan (s.configured v x)) := by
  have hcode : x.record.state.code = if x.probe.isSome then 0x01 else 0x02 := by
    cases hp : x.probe <;> simp [Settings.record, hp, TargetState.code]
  have hscan : scanIf (decide (0 < s.waitersFor v) || x.probe.isNone) (s.configured v x) =
      if s.waitersFor v = 0 ∧ x.probe.isSome = true then s.configured v x else scan (s.configured v x) := by
    cases hp : x.probe with
    | none => simp [scanIf]
    | some y =>
      rw [Option.isNone_some, Bool.or_false, scanIf_pos_count]
      simp
  rw [← hcode, ← hscan]
  unfold configure State.configured
  cases x.probe <;> rfl

/-- R153: with the engine holding nothing, the probe starts with the new record's values. -/
theorem current_configured {s : State} {v : TargetIx} {x : Settings} {y : ProbeSetting} (hp : x.probe = some y)
    (hc : s.current = none) (hlaw : EngineLaw s) : (s.configured v x).current = some
      { holding := .probe v, taken := 0, phase := .setup, waitStates := x.waitStates
        readyTimeout := x.readyTimeout, base := x.span.base } := by
  have hk := rerecorded_keeps s v x.record
  obtain ⟨hqueue, hread, hprobe⟩ := hlaw.1 hc
  have hempty : Empty (s.rerecorded v x.record) :=
    ⟨hk.queue.trans hqueue, hk.read.trans hread, fun t => (hk.probe t).trans (hprobe t)⟩
  have hset : (s.rerecorded v x.record).settings v = x := by
    rw [State.settings, target_rerecorded_self]; rfl
  rw [configured_of_probe hp, current_probing_of_empty _ v y (hk.current.trans hc) hempty, State.starting, hset]

/-- Settles O45. -/
theorem targetsAreConfiguredAndReleased : Obligations.TargetsAreConfiguredAndReleased := by
  refine ⟨fun s tag a hlive hin => ?_, fun s tag target hlive hin => ⟨fun hbad => exec_refused hin ?_,
    fun v hv => ?_⟩⟩
  · intro last page outOfRange
    have hexec := exec_configureTarget hlive hin
    have hout : outOfRange ↔ ArgsOutOfRange a := Iff.rfl
    refine ⟨fun hbad => exec_refused hin ?_, fun v hv hrange => ?_⟩
    · rw [hexec, takeConfigureTarget, settingsOf_eq_none (hout.mp hbad)]
      rfl
    · intro x busy clash n
      have hbusy : s.targetBusy v = true ↔ busy := targetBusy_iff
      rw [takeConfigureTarget, settingsOf_eq_some hv (mt hout.mpr hrange)] at hexec
      dsimp only at hexec
      rw [← hbusy]
      refine ⟨fun hb => exec_refused hin (hexec.trans (congrArg _ (if_pos hb))), fun hb w hw hlow => ?_,
        fun hb hno => ?_⟩
      · have hover : s.overlapping v (argsSettings a).span = some w := overlapping_eq_some hw hlow
        rw [if_neg hb, hover] at hexec
        exact exec_refused hin hexec
      · have hover : s.overlapping v (argsSettings a).span = none := overlapping_eq_none_iff.mpr fun u b hu hb' => by
          rw [← Bool.not_eq_true]
          exact fun hc => hno u ⟨hu, b, hb', hc⟩
        rw [if_neg hb, hover] at hexec
        dsimp only at hexec
        rw [configure_eq] at hexec
        have hrec := rerecorded_keeps s v x.record
        have hk := configured_keepsAfter s v x
        have hin1 : InHandIs (s.configured v x) 0 tag (.configureTarget a) :=
          (inHandIs_rerecorded hin v x.record).of_keeps hk
        have hin2 : InHandIs (if n = 0 ∧ x.probe.isSome = true then s.configured v x else scan (s.configured v x)) 0
            tag (.configureTarget a) := by
          split
          · exact hin1
          · exact inHandIs_scan hin1
        refine ⟨s.configured v x, _, hexec, (hk.target v).trans (target_rerecorded_self s v _),
          fun u hu => (hk.target u).trans (targetsBut_rerecorded s v _ u hu),
          hk.waitList.trans (waitList_rerecorded s v _), fun p k => (hk.ticket p k).trans (ticket_rerecorded s v _ p k),
          fun p => ?_, fun y hy => ⟨?_, fun w hw => ?_, ?_, fun c hc => ?_, fun hc hlaw => current_configured hy hc hlaw⟩,
          fun hp => ?_, (hrec.mono (by simp)).trans (hk.mono (by simp)), respond_answered hin2 _ _,
          respond_keeps _ _ _ _⟩
        · rw [hk.link]; exact link_rerecorded s v _ p
        · rw [configured_of_probe hy]; exact probe_probing_self _ v y
        · rw [configured_of_probe hy, probe_probing_of_ne _ v y hw]; exact hrec.probe w
        · rw [configured_of_probe hy]; exact current_probing_ne_none _ v y
        · rw [configured_of_probe hy]; exact current_probing_of_some _ v y (hrec.current.trans hc)
        · rw [configured_of_none hp]; exact ⟨hrec.probes, hrec.current⟩
  · rw [exec_releaseTarget hlive hin, takeReleaseTarget, indexOf_eq_none hbad]
    rfl
  · intro busy n
    have hbusy : s.targetBusy v = true ↔ busy := targetBusy_iff
    have hexec := exec_releaseTarget hlive hin
    rw [takeReleaseTarget, indexOf_eq_some hv] at hexec
    dsimp only at hexec
    rw [← hbusy]
    refine ⟨fun hb => exec_refused hin (hexec.trans (congrArg _ (if_pos hb))), fun hb => ?_⟩
    rw [if_neg hb, scanIf_pos_count] at hexec
    have hin1 := inHandIs_rerecorded hin v .powerOn
    have hin2 : InHandIs (if n = 0 then s.rerecorded v .powerOn else scan (s.rerecorded v .powerOn)) 0 tag
        (.releaseTarget target) := by
      split
      · exact hin1
      · exact inHandIs_scan hin1
    exact ⟨s.rerecorded v .powerOn, _, hexec, target_rerecorded_self s v _, targetsBut_rerecorded s v _,
      waitList_rerecorded s v _, ticket_rerecorded s v _, link_rerecorded s v _, rerecorded_keeps s v _,
      respond_answered hin2 _ _, respond_keeps _ _ _ _⟩

end Sys2Proof.Machine
end

section
/-! The access checker: accesses that are admitted or refused, and the start of the engine. -/

namespace Sys2Proof.Machine

/-! ### Admission -/

/-- What an ascending list's search finds is the lowest that passes. -/
theorem find?_le {n : Nat} {l : List (Fin n)} {f : Fin n → Bool} {i j : Fin n} (hl : l.Pairwise (· < ·))
    (h : l.find? f = some i) (hj : j ∈ l) (hf : f j = true) : i ≤ j := by
  induction l with
  | nil => cases hj
  | cons a l ih =>
    obtain ⟨ha, hl⟩ := List.pairwise_cons.mp hl
    cases hfa : f a with
    | true =>
      rw [List.find?_cons_of_pos hfa] at h
      obtain rfl := Option.some.inj h
      rcases List.mem_cons.mp hj with rfl | hmem
      · exact le_rfl
      · exact (ha j hmem).le
    | false =>
      rw [List.find?_cons_of_neg (by simp [hfa])] at h
      rcases List.mem_cons.mp hj with rfl | hmem
      · rw [hf] at hfa; cases hfa
      · exact ih hl h hmem

/-- R118: the selected entry is the lowest-indexed that covers the page. -/
theorem selected_le {s : State} {p : Port} {page : Nat} {i j : EntryIx} {m : Lease}
    (h : s.selected p page = some i) (hm : s.lease j = some m) (ho : m.occupying = true) (hp : m.holder = p)
    (hpage : m.claim.window.hasPage page = true) : i ≤ j :=
  find?_le (by decide) h (mem_allEntries j) (by simp [State.covers, hm, ho, hp, hpage])

theorem countAdmission_eq {s : State} {i : EntryIx} {l : Lease} (h : s.lease i = some l) :
    countAdmission i s = s.setLease i (some { l with outstanding := l.outstanding + 1 }) := by
  simp [countAdmission, h]

/-- R12: an admission counts under its entry. -/
theorem entryBecomes_countAdmission {s : State} {i : EntryIx} {g : Byte} {l : Lease}
    (h : s.entry i = { generation := g, lease := some l }) :
    EntryBecomes i { generation := g, lease := some { l with outstanding := l.outstanding + 1 } } s
      (countAdmission i s) := by
  rw [countAdmission_eq (lease_of_entry h)]
  exact entryBecomes_setLease h _

theorem EntryBecomes.of_keeps {may : List Part} {s u v : State} {i : EntryIx} {e : Entry}
    (h : EntryBecomes i e s u) (hk : KeepsAllBut may u v) (hp : .directory ∉ may := by decide) :
    EntryBecomes i e s v :=
  ⟨(hk.entry i hp).trans h.1, fun j hj => (hk.entry j hp).trans (h.2 j hj)⟩

theorem entryBecomes_admitWrite {s : State} {w : PostedWrite} {g : Byte} {l : Lease}
    (h : s.entry w.handle.index = { generation := g, lease := some l }) :
    EntryBecomes w.handle.index { generation := g, lease := some { l with outstanding := l.outstanding + 1 } } s
      (admitWrite w s) := by
  have hk : KeepsAllBut [.queue, .answer] (countAdmission w.handle.index s) (admitWrite w s) :=
    ((keeps_queue _ _).mono (by simp)).trans ((answerBus_keeps _ _).mono (by simp))
  exact (entryBecomes_countAdmission h).of_keeps hk

/-! ### An access of the owner -/

section
variable {s : State} {p : Port} {a : WordAddr} {x : Access}

theorem exec_access (hlive : s.resetLow = false) (hx : x.whole = true) :
    exec (.access a x) s = .next (takeAccess a x s) := by
  have hexec : exec (.access a x) s = execAccess a x s := rfl
  rw [hexec, execAccess, if_pos hx, whenLive_live hlive]

theorem exec_brokenWrite {b : Burst} {n : Nat} (hlive : s.resetLow = false) (hn : n < b.words) :
    exec (.brokenWrite a b n) s = .next (takeBrokenWrite a s) := by
  have hexec : exec (.brokenWrite a b n) s = execBrokenWrite a b n s := rfl
  rw [hexec, execBrokenWrite, if_pos hn, whenLive_live hlive]

theorem takeAccess_owned (hbus : s.arb.bus = .owned p) (hin : s.inHand = false) :
    takeAccess a x s = decideAccess p a x s := by
  simp [takeAccess, hbus, hin]

theorem takeAccess_inHand (hbus : s.arb.bus = .owned p) (hin : s.inHand = true) : takeAccess a x s = s := by
  simp [takeAccess, hbus, hin]

theorem takeAccess_notOwned (hbus : ∀ p, s.arb.bus ≠ .owned p) :
    takeAccess a x s = refuseNotOwner a (accessDir x) (refusedWords x) s := by
  unfold takeAccess
  split
  · next p hp => exact absurd hp (hbus p)
  · rfl

theorem takeBrokenWrite_owned (hbus : s.arb.bus = .owned p) (hin : s.inHand = false) :
    takeBrokenWrite a s = refuseAccess (some p)
      { reason := .badBurst, access := some (byteAddr a, .write), handle := none
        target := s.targetOfPage (pageOf (byteAddr a)) } [] s := by
  simp [takeBrokenWrite, hbus, hin]

theorem takeBrokenWrite_inHand (hbus : s.arb.bus = .owned p) (hin : s.inHand = true) :
    takeBrokenWrite a s = s := by
  simp [takeBrokenWrite, hbus, hin]

theorem takeBrokenWrite_notOwned (hbus : ∀ p, s.arb.bus ≠ .owned p) :
    takeBrokenWrite a s = refuseNotOwner a .write [] s := by
  unfold takeBrokenWrite
  split
  · next p hp => exact absurd hp (hbus p)
  · rfl

theorem decideAccess_refuse {r : FaultReason} {h : Option Handle} {t : Option TargetIx}
    (hc : s.checkAccess p (pageOf (byteAddr a)) (accessDir x) = .refuse r h t) :
    decideAccess p a x s = refuseAccess (some p)
      { reason := r, access := some (byteAddr a, accessDir x), handle := h, target := t } (refusedWords x) s := by
  simp [decideAccess, hc]

theorem decideAccess_write {b : Burst} {data : List Word} {h : Handle} {t : TargetIx}
    (hc : s.checkAccess p (pageOf (byteAddr a)) .write = .pass h t) :
    decideAccess p a (.write b data) s = takeWrite
      { handle := h, port := p, target := t, address := byteAddr a, burst := b, data := data } s := by
  simp [decideAccess, accessDir, hc]

theorem decideAccess_read {b : Burst} {h : Handle} {t : TargetIx}
    (hc : s.checkAccess p (pageOf (byteAddr a)) .read = .pass h t) :
    decideAccess p a (.read b) s = takeRead
      { handle := h, port := p, target := t, address := byteAddr a, burst := b, deliver := true
        buffer := [] } s := by
  simp [decideAccess, accessDir, hc]

end

/-- Settles O53. -/
theorem accessIsAdmitted : Obligations.AccessIsAdmitted := by
  intro s p a i g l t d hlive hbus hin hentry hpass
  have hl := lease_of_entry hentry
  have hcheck : s.checkAccess p (pageOf (byteAddr a)) d = .pass { index := i, generation := g } t :=
    checkAccess_eq_pass_iff.mpr ⟨i, l, hpass, by rw [hentry]⟩
  obtain ⟨-, -, hsel, -, -, -⟩ := hpass
  obtain ⟨m, hm, -, hholder, hpage⟩ := selected_some hsel
  obtain rfl : l = m := Option.some.inj (hl.symm.trans hm)
  refine ⟨hholder, hpage, fun j m hm ho hp hpg => selected_le hsel hm ho hp hpg, fun b data hd hlen => ?_,
    fun b hd => ?_⟩
  · subst hd
    intro w
    have hexec : exec (.access a (.write b data)) s = .next (takeWrite w s) := by
      rw [exec_access hlive (by simpa [Access.whole] using hlen), takeAccess_owned hbus hin,
        decideAccess_write hcheck]
    refine ⟨fun hroom => ?_, fun hfull => ?_⟩
    · have hroom' : s.queue.length < Config.queueDepth := hroom
      rw [takeWrite, if_pos hroom'] at hexec
      exact ⟨admitWrite w s, hexec, queue_admitWrite w s, entryBecomes_admitWrite (w := w) hentry, rfl,
        (admitWrite_keeps w s).mono (by simp)⟩
    · have hfull' : ¬ s.queue.length < Config.queueDepth := not_lt.mpr hfull
      rw [takeWrite, if_neg hfull'] at hexec
      exact ⟨_, hexec, rfl, keeps_stalled s _⟩
  · subst hd
    have hexec := exec_access (a := a) (x := .read b) hlive rfl
    rw [takeAccess_owned hbus hin, decideAccess_read hcheck] at hexec
    exact ⟨_, hexec, rfl, (entryBecomes_countAdmission hentry).of_keeps (keeps_read _ _),
      ((countAdmission_keeps i s).mono (by simp)).trans ((keeps_read _ _).mono (by simp))⟩

/-! ### An access that is refused -/

/-- R118: the reason that checks 6 to 8 give. -/
theorem admission_eq_some {l : Lease} {d : Dir} {r : FaultReason}
    (h : (l.state = .parked ∧ r = .leaseParked) ∨ (l.draining = true ∧ r = .leaseRetiring) ∨
      (l.state = .held ∧ l.claim.cls = .sharedRead ∧ d = .write ∧ r = .readOnly)) :
    l.admission d = some r := by
  rcases h with ⟨hs, rfl⟩ | ⟨hd, rfl⟩ | ⟨hs, hc, rfl, rfl⟩
  · simp [Lease.admission, hs]
  · unfold Lease.draining at hd
    unfold Lease.admission
    split at hd <;> simp_all
  · simp [Lease.admission, hs, hc]

/-- R116: the first check that fails decides the refusal. -/
theorem checkAccess_of_fails {s : State} {p : Port} {page : Nat} {d : Dir} {r : FaultReason} {h : Option Handle}
    {t : Option TargetIx} (hfail : AdmissionFails s p page d r h t) : s.checkAccess p page d = .refuse r h t := by
  rcases hfail with ⟨hnone, rfl, rfl, rfl⟩ | ⟨u, hu, rfl, hfail⟩
  · simp [State.checkAccess, hnone]
  · rcases hfail with ⟨hdown, rfl, rfl⟩ | ⟨hup, hfail⟩
    · simp [State.checkAccess, hu, hdown]
    · rcases hfail with ⟨hnone, rfl, rfl⟩ | ⟨i, g, l, hsel, hentry, rfl, hlease⟩
      · simp [State.checkAccess, hu, hup, hnone]
      · simp [State.checkAccess, hu, hup, hsel, hentry, State.lease, admission_eq_some hlease]

/-- R116: a refused access ends with IERR and a fault. -/
theorem refuseAccess_some (p : Port) (f : AccessFault) (words : List Word) (s : State) :
    FaultEntered p f s (refuseAccess (some p) f words s) ∧
      (refuseAccess (some p) f words s).answer = some { acks := 0, ierr := true, words := words } ∧
      KeepsAllBut [.links, .answer] s (refuseAccess (some p) f words s) :=
  ⟨enterFault_entered p f s, rfl, refuseAccess_keeps (some p) f words s⟩

theorem refusedWords_eq (x : Access) : refusedWords x = match x with
    | .read b => List.replicate b.words (0 : Word)
    | .write _ _ => [] := by
  cases x <;> rfl

/-- Settles O54. -/
theorem accessIsRefused : Obligations.AccessIsRefused := by
  intro s a x hlive hwhole d zeros refused
  have hzeros : refusedWords x = zeros := refusedWords_eq x
  have hexec := exec_access (a := a) hlive hwhole
  have hbroken : ∀ b n, n < Burst.words b → exec (.brokenWrite a b n) s = .next (takeBrokenWrite a s) :=
    fun b n hn => exec_brokenWrite hlive hn
  refine ⟨fun p hbus hin => ⟨fun r h t hfail => ?_, fun b n hn => ?_⟩,
    fun p hbus hin => ⟨?_, fun b n hn => ?_⟩, fun hbus => ⟨fun p hp => ⟨?_, fun b n hn => ?_⟩, fun hnone => ?_⟩⟩
  · rw [takeAccess_owned hbus hin, decideAccess_refuse (checkAccess_of_fails hfail), hzeros] at hexec
    exact ⟨_, hexec, refuseAccess_some _ _ _ _⟩
  · exact ⟨_, (hbroken b n hn).trans (congrArg _ (takeBrokenWrite_owned hbus hin)), refuseAccess_some _ _ _ _⟩
  · rw [hexec, takeAccess_inHand hbus hin]
  · rw [hbroken b n hn, takeBrokenWrite_inHand hbus hin]
  · rw [takeAccess_notOwned hbus, refuseNotOwner, hp, hzeros] at hexec
    exact ⟨_, hexec, refuseAccess_some _ _ _ _⟩
  · have hb := hbroken b n hn
    rw [takeBrokenWrite_notOwned hbus, refuseNotOwner, hp] at hb
    exact ⟨_, hb, refuseAccess_some _ _ _ _⟩
  · intro unrecorded
    refine ⟨?_, fun b n hn => ?_⟩
    · rw [takeAccess_notOwned hbus, refuseNotOwner, hnone, hzeros] at hexec
      exact ⟨_, hexec, rfl, answerBus_keeps _ s⟩
    · have hb := hbroken b n hn
      rw [takeBrokenWrite_notOwned hbus, refuseNotOwner, hnone] at hb
      exact ⟨_, hb, rfl, answerBus_keeps _ s⟩

/-! ### The start of the engine -/

/-- R122: the stalled write takes a free place. -/
theorem admitStalled_room {s : State} {w : PostedWrite} (hw : s.stalled = some w)
    (hroom : s.queue.length < Config.queueDepth) :
    admitStalled s = admitWrite w { s with stalled := none } := by
  simp [admitStalled, hw, hroom]

/-- Settles O55. -/
theorem engineAdmitsAndStarts : Obligations.EngineAdmitsAndStarts := by
  refine ⟨fun s w g l hlive hw hentry hroom => ?_, fun s hlive hc => ?_⟩
  · have hexec : exec .stalledWriteAdmission s = .next (startNext (admitStalled s)) := by
      have h : exec .stalledWriteAdmission s = execStalledWriteAdmission s := rfl
      rw [h, execStalledWriteAdmission, whenLive_live hlive]
    rw [admitStalled_room hw hroom] at hexec
    have hun : KeepsAllBut [.stalled] s { s with stalled := none } := keeps_stalled s none
    have hadmit := admitWrite_keeps w { s with stalled := none }
    obtain ⟨hself, hbut⟩ := entryBecomes_admitWrite (s := { s with stalled := none }) (w := w) hentry
    exact ⟨_, hexec, hadmit.stalled, queue_admitWrite w _, ⟨hself, hbut⟩, rfl,
      (hun.mono (by simp)).trans (hadmit.mono (by simp))⟩
  · intro starts
    have hexec : exec .accessStart s = .next (startNext s) := whenLive_live hlive _
    have hstarts : ∀ h t, s.nextHolding = some (h, t) → starts h t := fun h t hn => by
      rw [startNext_of_nextHolding hc hn] at hexec
      exact ⟨_, hexec, keeps_current s _, rfl⟩
    refine ⟨fun w rest hq => hstarts _ _ (by simp [State.nextHolding, hq]),
      fun hq x hx => hstarts _ _ (by simp [State.nextHolding, hq, hx]), fun hq hx t ht hlow => hstarts _ _ ?_,
      fun hq hx hp => ?_⟩
    · have hfind : (allTargets.find? fun t => (s.probe t).isSome) = some t :=
        find?_eq_lowest (by decide) (mem_allTargets t) (Option.isSome_iff_ne_none.mpr ht) fun u hu => by
          rw [hlow u hu]; rfl
      simp [State.nextHolding, hq, hx, hfind]
    · rw [hexec, startNext_of_empty ⟨hq, hx, hp⟩]

end Sys2Proof.Machine
end

section
/-! The ends of an access: what finishing it leaves, the report to the target, and a probe's end. -/

namespace Sys2Proof.Machine

/-! ### What the end of an access leaves of its lease -/

/-- R74: a CLOSING or REVOKING lease drains. -/
theorem finishAccess_drains {h : Handle} {s : State} {l : Lease} (hl : s.lease h.index = some l)
    (hout : 1 ≤ l.outstanding) (lost : Bool) :
    (finishAccess h lost s).2 = (l.draining && decide (l.outstanding = 1)) := by
  have hdrain : ({ l with
      outstanding := l.outstanding - 1
      marks := { l.marks with writeLost := l.marks.writeLost || lost } } : Lease).draining = l.draining := rfl
  unfold finishAccess
  rw [hl]
  dsimp only
  rw [hdrain]
  by_cases hone : l.outstanding = 1 <;> cases hd : l.draining
  · simp
  · simp [hone]
  · simp
  · rw [if_neg (by omega)]
    simp [hone]

/-- R12: an access under entry `i` has left the engine, whose current access is gone. -/
theorem finished_finishAccess {h : Handle} {s u : State} {g : Byte} {l : Lease}
    (he : s.entry h.index = { generation := g, lease := some l }) (hout : 1 ≤ l.outstanding) (lost : Bool)
    (hentry : ∀ j, u.entry j = s.entry j) (hlink : ∀ q, u.link q = s.link q) (hcur : u.current = none) :
    Finished h.index g l lost (fun q => (s.link q).fault) s (finishAccess h lost u).1 := by
  have hlease : u.lease h.index = some l := by rw [State.lease, hentry, he]
  refine ⟨(finishAccess_keeps h lost u).current.trans hcur, ⟨?_, fun j hj => ?_⟩, fun q => ?_⟩
  · rw [entry_finishAccess, if_pos rfl, hlease, hentry, he]
    rfl
  · rw [entry_finishAccess, if_neg hj, hentry]
  · have hone : l.outstanding - 1 = 0 ↔ l.outstanding = 1 := by omega
    rw [link_finishAccess hlease, hlink]
    simp only [LinkState.closed_eq, hone]

/-- What follows the end of an access leaves what it has left. -/
theorem Finished.of_keeps {i : EntryIx} {g : Byte} {l : Lease} {lost : Bool} {faults : Port → FaultRecord}
    {s u v : State} {may : List Part} (h : Finished i g l lost faults s u) (hk : KeepsAllBut may u v)
    (hc : .current ∉ may := by decide) (hd : .directory ∉ may := by decide)
    (hl : .links ∉ may := by decide) : Finished i g l lost faults s v := by
  obtain ⟨hcur, ⟨hself, hother⟩, hlink⟩ := h
  exact ⟨(hk.current hc).trans hcur, ⟨(hk.entry i hd).trans hself, fun j hj => (hk.entry j hd).trans (hother j hj)⟩,
    fun q => (hk.link q hl).trans (hlink q)⟩

/-- R128: a fault that the end of an access enters. -/
theorem Finished.enterFault {i : EntryIx} {g : Byte} {l : Lease} {lost : Bool} {faults : Port → FaultRecord}
    {s u : State} (h : Finished i g l lost faults s u) (p : Port) (f : AccessFault) :
    Finished i g l lost (fun q => if q = p then (faults q).enter f else faults q) s
      (Machine.enterFault p f u) := by
  obtain ⟨hcur, ⟨hself, hother⟩, hlink⟩ := h
  have hk := enterFault_keeps p f u
  obtain ⟨hentered, hbut⟩ := enterFault_entered p f u
  refine ⟨hk.current.trans hcur, ⟨(hk.entry i).trans hself, fun j hj => (hk.entry j).trans (hother j hj)⟩,
    fun q => ?_⟩
  by_cases hq : q = p
  · subst hq; rw [hentered, hlink]; simp
  · rw [hbut q hq, hlink]; simp [hq]

/-! ### The report to the target -/

/-- R159: a completion restores a target in service. -/
theorem reportEnd_completed {t : TargetIx} {s : State} (h : (s.target t).state.inService = true) :
    reportEnd false t s = (s.setTarget t { s.target t with state := .ready, timeouts := 0 },
      decide ((s.target t).state = .suspect)) := by
  unfold reportEnd reportCompletion
  rw [if_neg (by decide)]
  dsimp only
  cases hs : (s.target t).state with
  | ready => rw [← hs]; simp [hs]
  | suspect => simp
  | _ => rw [hs] at h; cases h

/-- R158: what a time-out leaves of the record of a target in service, before a loss. -/
def TargetRecord.timedOut (r : TargetRecord) : TargetRecord :=
  if r.state = .ready then { r with state := .suspect, timeouts := 1, lastFault := .accessTimeout }
  else { r with timeouts := 2 }

/-- R158: a time-out at a READY target, and one at a SUSPECT target, which is lost. -/
theorem reportEnd_timedOut {t : TargetIx} {s : State} (h : (s.target t).state.inService = true) :
    reportEnd true t s =
      if (s.target t).state = .ready then (s.setTarget t (s.target t).timedOut, false)
      else (loseTarget t .accessTimeout (s.setTarget t (s.target t).timedOut), true) := by
  unfold reportEnd reportTimeout TargetRecord.timedOut
  rw [if_pos rfl]
  dsimp only
  cases hs : (s.target t).state with
  | ready => simp
  | suspect => simp
  | _ => rw [hs] at h; cases h

/-- R138, R158: the stages of an end step that follow a time-out at a target in service. -/
theorem endStep_timedOut {t : TargetIx} {s v : State} (hv : v.target t = s.target t)
    (h : (s.target t).state.inService = true) (b : Bool) :
    endStep (b || (reportEnd true t v).2) (reportEnd true t v).1 =
      if (s.target t).state = .ready then endStep b (v.setTarget t (s.target t).timedOut)
      else endStep true (loseTarget t .accessTimeout (v.setTarget t (s.target t).timedOut)) := by
  rw [← hv] at h ⊢
  rw [reportEnd_timedOut h]
  split
  · rw [Bool.or_false]
  · rw [Bool.or_true]

/-- R138, R159: the stages of an end step that follow a completion at a target in service. -/
theorem endStep_completed {t : TargetIx} {s v : State} (hv : v.target t = s.target t)
    (h : (s.target t).state.inService = true) (b : Bool) :
    endStep (b || (reportEnd false t v).2) (reportEnd false t v).1 =
      endStep (b || decide ((s.target t).state = .suspect))
        (v.setTarget t { s.target t with state := .ready, timeouts := 0 }) := by
  rw [← hv] at h ⊢
  rw [reportEnd_completed h]

/-- A target's record becomes `r`, and no other one changes. -/
theorem targetBecomes_setTarget {s v : State} (hv : ∀ x, v.target x = s.target x) (t : TargetIx)
    (r : TargetRecord) :
    (v.setTarget t r).target t = r ∧ TargetsBut t s (v.setTarget t r) :=
  ⟨target_setTarget_self v t r, fun x hx => (target_setTarget_of_ne v r hx).trans (hv x)⟩

/-! ### When an end row is taken -/

theorem Phase.mayComplete_of_ne {k : Phase} (h : k ≠ .ending true) : k.mayComplete = true := by
  cases k with
  | ending b => cases b <;> simp_all [Phase.mayComplete]
  | _ => rfl

theorem Phase.mayTimeOut_of_ne {k : Phase} {n : Nat} (h : k ≠ .ending false) (hn : k = .ending true → n = 0) :
    k.mayTimeOut n = true := by
  cases k with
  | ending b => cases b <;> simp_all [Phase.mayTimeOut]
  | _ => rfl

/-! ### The end of a probe -/

section
variable {s : State} {c : Current} {t : TargetIx} {x : Probe}

theorem exec_probeCompletion (hlive : s.resetLow = false) (hc : s.current = some c)
    (hhold : c.holding = .probe t) (hx : s.probe t = some x) (hphase : c.phase ≠ .ending true) (w : Word) :
    exec (.probeCompletion w) s = .next (endProbe t (some (x.captured.getD w)) s) := by
  have hexec : exec (.probeCompletion w) s = .next (completeProbe w s) := whenLive_live hlive _
  rw [hexec, completeProbe, hc]
  dsimp only
  rw [hhold]
  dsimp only
  rw [hx]
  dsimp only
  rw [if_pos (Phase.mayComplete_of_ne hphase)]

theorem exec_probeTimeout (hlive : s.resetLow = false) (hc : s.current = some c)
    (hhold : c.holding = .probe t) (hphase : c.phase ≠ .ending false) :
    exec .probeTimeout s = .next (endProbe t none s) := by
  have hexec : exec .probeTimeout s = .next (timeOutProbe s) := whenLive_live hlive _
  rw [hexec, timeOutProbe, hc]
  dsimp only
  rw [hhold]
  dsimp only
  rw [if_pos (Phase.mayTimeOut_of_ne hphase fun _ => rfl)]

end

/-- R155: the word that a probe reads is compared with the signature of its target. -/
theorem reportProbeWord_eq {s : State} {t : TargetIx} {y : ProbeSetting} (hy : (s.settings t).probe = some y)
    (w : Word) : reportProbeWord t w s =
      if w = y.signature then (s.setTarget t { s.target t with probeResult := some w, state := .ready }, true)
      else (loseTarget t .probeMismatch (s.setTarget t { s.target t with probeResult := some w }), true) := by
  unfold reportProbeWord
  dsimp only
  rw [hy]
  simp only [Option.any_some, beq_iff_eq]
  by_cases h : w = y.signature
  · rw [if_pos h, if_pos h.symm]
  · rw [if_neg h, if_neg (Ne.symm h)]

/-- R141, R144: the probe of target `t` has left the engine. -/
def State.ProbeCleared (s : State) (t : TargetIx) (u : State) : Prop :=
  u.probe t = none ∧ (∀ v, v ≠ t → u.probe v = s.probe v) ∧ u.current = none

theorem probeCleared_withoutProbe (s : State) (t : TargetIx) (e : Option AccessEnd) :
    s.ProbeCleared t (s.withoutProbe t e) :=
  ⟨probe_setProbe_self s t none, fun _ hv => probe_setProbe_of_ne s none hv, rfl⟩

theorem State.ProbeCleared.setTarget {s u : State} {t : TargetIx} (h : s.ProbeCleared t u) (r : TargetRecord) :
    s.ProbeCleared t (u.setTarget t r) := h

/-- Settles O59: a probe that ends leaves the engine, and its word or its time-out decides what its target
becomes. -/
theorem probeEndsInReadyOrOffline : Obligations.ProbeEndsInReadyOrOffline := by
  intro s c t x y hlive hc hhold hx hy
  refine ⟨fun w hphase => ?_, fun hphase => ?_⟩
  · obtain ⟨r, hr, hend⟩ := endProbe_word hx (x.captured.getD w)
    generalize hv : s.withoutProbe t _ = v at hr
    have hcleared : s.ProbeCleared t v := hv ▸ probeCleared_withoutProbe s t _
    have hkeeps : KeepsAllBut [.probes, .current, .lastEnd] s v := hv ▸ withoutProbe_keeps s t _
    have hafter : ∀ r, s.ProbeCleared t (v.setTarget t r) := hcleared.setTarget
    have hkept : ∀ r, KeepsAllBut [.probes, .current, .targets, .lastEnd] s (v.setTarget t r) := fun r =>
      (hkeeps.mono (by simp)).trans ((keeps_setTarget v t r).mono (by simp))
    have hy' : (v.settings t).probe = some y := by rw [hkeeps.settings, hy]
    have hexec := (exec_probeCompletion hlive hc hhold hx hphase w).trans (congrArg _ hend)
    rw [reportProbeWord_eq hy', hkeeps.target] at hr
    refine ⟨fun hw => ?_, fun hw => ?_⟩
    · rw [if_pos hw] at hr
      rw [hr] at hexec
      obtain ⟨hself, hbut⟩ := targetBecomes_setTarget hkeeps.target t
        { s.target t with probeResult := some (x.captured.getD w), state := .ready }
      exact ⟨_, hexec, hafter _, hself, hbut, hkept _⟩
    · rw [if_neg hw] at hr
      rw [hr] at hexec
      obtain ⟨hself, hbut⟩ := targetBecomes_setTarget hkeeps.target t
        { s.target t with probeResult := some (x.captured.getD w) }
      dsimp only at hexec
      refine ⟨_, hexec, ?_, hself, hbut, hkept _⟩
      exact hafter _
  · exact ⟨_, (exec_probeTimeout hlive hc hhold hphase).trans (congrArg _ (endProbe_late hx)),
      probeCleared_withoutProbe s t _, withoutProbe_keeps s t _⟩

end Sys2Proof.Machine
end

section
/-! The end steps of a write and of an owner read, completed or timed out. -/

namespace Sys2Proof.Machine

/-! ### The states before the report -/

/-- R138: the state after the write at the queue's head has left the engine. -/
def State.writeFinished (s : State) (w : PostedWrite) (rest : List PostedWrite) (late : Bool)
    (e : Option AccessEnd) : State :=
  faultLate late w (finishAccess w.handle late (s.withoutWrite rest e)).1

/-- The hypotheses about the lease and the target of an access that ends. -/
structure Ends (s : State) (i : EntryIx) (g : Byte) (l : Lease) (t : TargetIx) : Prop where
  entry : s.entry i = { generation := g, lease := some l }
  outstanding : 1 ≤ l.outstanding
  inService : (s.target t).state.inService = true

section
variable {s : State} {i : EntryIx} {g : Byte} {l : Lease} {t : TargetIx}

theorem Ends.lease (h : Ends s i g l t) : s.lease i = some l := by
  rw [State.lease, h.entry]

theorem finished_writeFinished {w : PostedWrite} (h : Ends s w.handle.index g l t) (rest : List PostedWrite)
    (late : Bool) (e : Option AccessEnd) :
    Finished w.handle.index g l late
      (fun q => if late = true ∧ q = w.port then (s.link q).fault.enter (w.fault .writeLost)
        else (s.link q).fault) s (s.writeFinished w rest late e) := by
  have hleft := finished_finishAccess (u := s.withoutWrite rest e) h.entry h.outstanding late (fun _ => rfl)
    (fun _ => rfl) rfl
  cases late with
  | false => simpa [State.writeFinished, faultLate] using hleft
  | true => simpa [State.writeFinished, faultLate] using hleft.enterFault w.port (w.fault .writeLost)

theorem writeFinished_keeps (w : PostedWrite) (rest : List PostedWrite) (late : Bool) (e : Option AccessEnd)
    (s : State) : KeepsAllBut [.current, .directory, .links, .queue, .lastEnd] s
      (s.writeFinished w rest late e) :=
  ((withoutWrite_keeps s rest e).mono (by simp)).trans
    (((finishAccess_keeps _ _ _).mono (by simp)).trans ((faultLate_keeps _ _ _).mono (by simp)))

theorem queue_lastEnd_writeFinished (w : PostedWrite) (rest : List PostedWrite) (late : Bool) (e : Option AccessEnd)
    (s : State) : (s.writeFinished w rest late e).queue = rest ∧
      (s.writeFinished w rest late e).lastEnd = e := by
  have hkeeps := (faultLate_keeps late w (finishAccess w.handle late (s.withoutWrite rest e)).1)
  have hend := finishAccess_keeps w.handle late (s.withoutWrite rest e)
  exact ⟨hkeeps.queue.trans hend.queue, (hkeeps .lastEnd (by decide)).trans (hend .lastEnd (by decide))⟩

theorem finished_readFinished {x : PendingRead} (h : Ends s x.handle.index g l t) (late : Bool)
    (words : List Word) (e : Option AccessEnd) :
    Finished x.handle.index g l false
      (fun q => if late = true ∧ x.deliver = true ∧ q = x.port then
          (s.link q).fault.enter (x.fault .targetTimeout)
        else (s.link q).fault) s (s.readFinished x late words e) := by
  have hleft := finished_finishAccess (u := s.withoutRead e) h.entry h.outstanding false (fun _ => rfl)
    (fun _ => rfl) rfl
  refine Finished.of_keeps (may := [.read, .arbiter]) (u := returnRead x late words
    (finishAccess x.handle false (s.withoutRead e)).1) ?_ ((readEnded_keeps _).mono (by simp))
  unfold returnRead
  cases hdel : x.deliver <;> cases late
  · simpa using hleft
  · simpa using hleft
  · simpa using hleft.of_keeps (answerBus_keeps _ _)
  · simpa using (hleft.enterFault x.port (x.fault .targetTimeout)).of_keeps (answerBus_keeps _ _)

/-- R139, R143: the answer that a read's end gives. -/
theorem answer_readFinished (x : PendingRead) (late : Bool) (words : List Word) (e : Option AccessEnd)
    (s : State) :
    (x.deliver = true → late = false → (s.readFinished x late words e).answer =
      some { acks := x.burst.words, ierr := false, words := words }) ∧
    (x.deliver = true → late = true → (s.readFinished x late words e).answer =
      some { acks := 0, ierr := true, words := List.replicate x.burst.words 0 }) ∧
    (x.deliver = false → (s.readFinished x late words e).answer = s.answer) := by
  unfold State.readFinished
  rw [(readEnded_keeps _).answer]
  unfold returnRead
  refine ⟨fun hdel hlate => ?_, fun hdel hlate => ?_, fun hdel => ?_⟩
  · rw [if_pos hdel, hlate]; rfl
  · rw [if_pos hdel, hlate]; rfl
  · rw [if_neg (by simp [hdel]), (finishAccess_keeps _ _ _).answer]; rfl

theorem read_readFinished (x : PendingRead) (late : Bool) (words : List Word) (e : Option AccessEnd)
    (s : State) : (s.readFinished x late words e).read = none :=
  (readEnded_keeps _).read.trans ((returnRead_keeps _ _ _ _).read.trans (finishAccess_keeps _ _ _).read)

/-- R102: the end of the pending read ends a HANDOVER. -/
theorem arb_readFinished (x : PendingRead) (late : Bool) (words : List Word) (e : Option AccessEnd)
    (s : State) :
    (s.arb.bus ≠ .handover → (s.readFinished x late words e).arb = s.arb) ∧
    (s.arb.bus = .handover → (s.readFinished x late words e).arb =
      (arbitrate { s with arb := { s.arb with bus := .free } }).arb) := by
  have hsame : (returnRead x late words (finishAccess x.handle false (s.withoutRead e)).1).arb = s.arb :=
    (returnRead_keeps _ _ _ _).arb.trans (finishAccess_keeps _ _ _).arb
  unfold State.readFinished
  rw [arb_readEnded_congr hsame, arb_readEnded]
  exact ⟨fun h => if_neg h, fun h => if_pos h⟩

/-! ### The end steps -/

/-- R138: the end step of the write at the queue's head. -/
theorem endWrite_finished {w : PostedWrite} {rest : List PostedWrite} (hq : s.queue = w :: rest)
    (h : Ends s w.handle.index g l w.target) (late : Bool) (n : Nat) :
    ∃ v, v = s.writeFinished w rest late (some ⟨.write, w.target, w.address, n, late⟩) ∧
      endWrite late n s = endStep ((l.draining && decide (l.outstanding = 1)) ||
        (reportEnd late w.target v).2) (reportEnd late w.target v).1 := by
  obtain ⟨e, f, r, rfl, rfl, rfl, hend⟩ := endWrite_cons hq late n
  rw [finishAccess_drains (s := s.withoutWrite rest _) h.lease h.outstanding] at hend
  exact ⟨_, rfl, hend⟩

/-- R138: the end step of the pending read. -/
theorem endRead_finished {x : PendingRead} (hx : s.read = some x) (h : Ends s x.handle.index g l x.target)
    (late : Bool) (n : Nat) (words : List Word) :
    ∃ v, v = s.readFinished x late words (some ⟨.read, x.target, x.address, n, late⟩) ∧
      endRead late n words s = endStep ((l.draining && decide (l.outstanding = 1)) ||
        (reportEnd late x.target v).2) (reportEnd late x.target v).1 := by
  obtain ⟨e, f, r, rfl, rfl, rfl, hend⟩ := endRead_some hx late n words
  rw [finishAccess_drains (s := s.withoutRead _) h.lease h.outstanding] at hend
  exact ⟨_, rfl, hend⟩

end

/-! ### The rows of the ends -/

section
variable {s : State} {c : Current}

theorem exec_writeCompletion {w : PostedWrite} {rest : List PostedWrite} (hlive : s.resetLow = false)
    (hc : s.current = some c) (hphase : c.phase ≠ .ending true) (hhold : c.holding = .write)
    (hq : s.queue = w :: rest) : exec .writeCompletion s = .next (endWrite false w.burst.words s) := by
  have hexec : exec .writeCompletion s = .next (completeWrite s) := whenLive_live hlive _
  rw [hexec, completeWrite, hc, hq]
  dsimp only
  rw [if_pos ⟨hhold, Phase.mayComplete_of_ne hphase⟩]

theorem exec_readCompletion {x : PendingRead} {data : List Word} (hlive : s.resetLow = false)
    (hc : s.current = some c) (hphase : c.phase ≠ .ending true) (hhold : c.holding = .read)
    (hx : s.read = some x) (hlen : x.buffer.length + data.length = x.burst.words) :
    exec (.readCompletion data) s = .next (endRead false x.burst.words (x.buffer ++ data) s) := by
  have hexec : exec (.readCompletion data) s = .next (completeRead data s) := whenLive_live hlive _
  rw [hexec, completeRead, hc, hx]
  dsimp only
  rw [if_pos ⟨hhold, Phase.mayComplete_of_ne hphase, hlen⟩]

theorem exec_writeTimeout {w : PostedWrite} {rest : List PostedWrite} {n : Nat} (hlive : s.resetLow = false)
    (hc : s.current = some c) (hphase : c.phase ≠ .ending false) (hn : c.phase = .ending true → n = 0)
    (hhold : c.holding = .write) (hq : s.queue = w :: rest) (hlt : c.taken + n < w.burst.words) :
    exec (.writeTimeout n) s = .next (endWrite true (c.taken + n) s) := by
  have hexec : exec (.writeTimeout n) s = .next (timeOutWrite n s) := whenLive_live hlive _
  rw [hexec, timeOutWrite, hc, hq]
  dsimp only
  rw [if_pos ⟨hhold, Phase.mayTimeOut_of_ne hphase hn, hlt⟩]

theorem exec_readTimeout {x : PendingRead} {n : Nat} (hlive : s.resetLow = false)
    (hc : s.current = some c) (hphase : c.phase ≠ .ending false) (hn : c.phase = .ending true → n = 0)
    (hhold : c.holding = .read) (hx : s.read = some x) (hlt : c.taken + n < x.burst.words) :
    exec (.readTimeout n) s = .next (endRead true (c.taken + n) [] s) := by
  have hexec : exec (.readTimeout n) s = .next (timeOutRead n s) := whenLive_live hlive _
  rw [hexec, timeOutRead, hc, hx]
  dsimp only
  rw [if_pos ⟨hhold, Phase.mayTimeOut_of_ne hphase hn, hlt⟩]

end

/-- Settles O57: an access that completes finishes its lease, restores its target and returns its words. -/
theorem accessCompletes : Obligations.AccessCompletes := by
  intro s c g l i t hlive hc hphase he hout hservice
  have hends : Ends s i g l t := ⟨he, hout, hservice⟩
  refine ⟨?_, ?_⟩
  · rintro w rest hhold hq rfl rfl
    obtain ⟨v, hv, hend⟩ := endWrite_finished hq hends false w.burst.words
    have hkeeps : KeepsAllBut [.current, .directory, .links, .queue, .lastEnd] s v :=
      hv ▸ writeFinished_keeps _ _ _ _ _
    have hfin : Finished w.handle.index g l false (fun q => (s.link q).fault) s v := by
      simpa [hv] using finished_writeFinished hends rest false
        (some ⟨.write, w.target, w.address, w.burst.words, false⟩)
    rw [endStep_completed (hkeeps.target w.target) hservice] at hend
    obtain ⟨hself, hbut⟩ := targetBecomes_setTarget hkeeps.target w.target
      { s.target w.target with state := .ready, timeouts := 0 }
    exact ⟨_, (exec_writeCompletion hlive hc hphase hhold hq).trans (congrArg _ hend),
      ⟨hfin.of_keeps (keeps_setTarget v _ _), hself, hbut⟩, hv ▸ (queue_lastEnd_writeFinished _ _ _ _ _).1,
      (hkeeps.mono (by simp)).trans ((keeps_setTarget v _ _).mono (by simp))⟩
  · rintro x data hhold hx rfl rfl hlen
    obtain ⟨v, hv, hend⟩ := endRead_finished hx hends false x.burst.words (x.buffer ++ data)
    have hkeeps : KeepsAllBut [.read, .current, .lastEnd, .directory, .links, .answer, .arbiter] s v :=
      hv ▸ finishRead_keeps _ _ _ _ _
    have hfin : Finished x.handle.index g l false (fun q => (s.link q).fault) s v := by
      simpa [hv] using finished_readFinished hends false (x.buffer ++ data)
        (some ⟨.read, x.target, x.address, x.burst.words, false⟩)
    obtain ⟨hwords, -, hsilent⟩ := answer_readFinished x false (x.buffer ++ data)
      (some ⟨.read, x.target, x.address, x.burst.words, false⟩) s
    obtain ⟨hbus, hhandover⟩ := arb_readFinished x false (x.buffer ++ data)
      (some ⟨.read, x.target, x.address, x.burst.words, false⟩) s
    rw [endStep_completed (hkeeps.target x.target) hservice] at hend
    obtain ⟨hself, hbut⟩ := targetBecomes_setTarget hkeeps.target x.target
      { s.target x.target with state := .ready, timeouts := 0 }
    exact ⟨_, (exec_readCompletion hlive hc hphase hhold hx hlen).trans (congrArg _ hend),
      ⟨hfin.of_keeps (keeps_setTarget v _ _), hself, hbut⟩, hv ▸ read_readFinished _ _ _ _ _,
      fun hd => hv ▸ hwords hd rfl, fun hd => hv ▸ hsilent hd, fun hb => hv ▸ hbus hb,
      fun hb => hv ▸ hhandover hb,
      (hkeeps.mono (by simp)).trans ((keeps_setTarget v _ _).mono (by simp))⟩

/-- Settles O58: an access that times out finishes its lease and makes its target SUSPECT or lost. -/
theorem accessTimesOut : Obligations.AccessTimesOut := by
  intro s c g l i t n hlive hc hphase hn he hout hservice
  have hends : Ends s i g l t := ⟨he, hout, hservice⟩
  refine ⟨?_, ?_⟩
  · rintro w rest hhold hq rfl rfl hlt
    obtain ⟨v, hv, hend⟩ := endWrite_finished hq hends true (c.taken + n)
    have hkeeps : KeepsAllBut [.current, .directory, .links, .queue, .lastEnd] s v :=
      hv ▸ writeFinished_keeps _ _ _ _ _
    have hfin : Finished w.handle.index g l true (fun q => if q = w.port then
        (s.link q).fault.enter (w.fault .writeLost) else (s.link q).fault) s v := by
      simpa [hv] using finished_writeFinished hends rest true
        (some ⟨.write, w.target, w.address, c.taken + n, true⟩)
    obtain ⟨hqueue, hlast⟩ := queue_lastEnd_writeFinished w rest true
      (some ⟨.write, w.target, w.address, c.taken + n, true⟩) s
    rw [endStep_timedOut (hkeeps.target w.target) hservice] at hend
    obtain ⟨hself, hbut⟩ := targetBecomes_setTarget hkeeps.target w.target (s.target w.target).timedOut
    exact ⟨_, (exec_writeTimeout hlive hc hphase hn hhold hq hlt).trans (congrArg _ hend),
      ⟨hfin.of_keeps (keeps_setTarget v _ _), hself, hbut⟩, hv ▸ hqueue, hv ▸ hlast,
      (hkeeps.mono (by simp)).trans ((keeps_setTarget v _ _).mono (by simp))⟩
  · rintro x hhold hx rfl rfl hlt
    obtain ⟨v, hv, hend⟩ := endRead_finished hx hends true (c.taken + n) []
    have hkeeps : KeepsAllBut [.read, .current, .lastEnd, .directory, .links, .answer, .arbiter] s v :=
      hv ▸ finishRead_keeps _ _ _ _ _
    have hfin : Finished x.handle.index g l false (fun q => if x.deliver = true ∧ q = x.port then
        (s.link q).fault.enter (x.fault .targetTimeout) else (s.link q).fault) s v := by
      simpa [hv] using finished_readFinished hends true [] (some ⟨.read, x.target, x.address, c.taken + n, true⟩)
    obtain ⟨-, herror, hsilent⟩ := answer_readFinished x true []
      (some ⟨.read, x.target, x.address, c.taken + n, true⟩) s
    obtain ⟨hbus, hhandover⟩ := arb_readFinished x true []
      (some ⟨.read, x.target, x.address, c.taken + n, true⟩) s
    rw [endStep_timedOut (hkeeps.target x.target) hservice] at hend
    obtain ⟨hself, hbut⟩ := targetBecomes_setTarget hkeeps.target x.target (s.target x.target).timedOut
    exact ⟨_, (exec_readTimeout hlive hc hphase hn hhold hx hlt).trans (congrArg _ hend),
      ⟨hfin.of_keeps (keeps_setTarget v _ _), hself, hbut⟩, hv ▸ read_readFinished _ _ _ _ _,
      fun hd => hv ▸ herror hd rfl, fun hd => hv ▸ hsilent hd, fun hb => hv ▸ hbus hb,
      fun hb => hv ▸ hhandover hb,
      (hkeeps.mono (by simp)).trans ((keeps_setTarget v _ _).mono (by simp))⟩

end Sys2Proof.Machine
end

section
/-! What a loss step leaves: the faults, the answer on the initiator bus, and the CLOSEs it answers. -/

namespace Sys2Proof.Machine

/-! ### Faults entered one after the other -/

/-- R128: what the faults of a list, each of its port, leave of the record of port `p`. -/
def enterFaults (p : Port) (faults : List (Port × AccessFault)) (r : FaultRecord) : FaultRecord :=
  (faults.filter fun x => x.1 == p).foldl (fun r x => r.enter x.2) r

theorem enterFaults_append (p : Port) (a b : List (Port × AccessFault)) (r : FaultRecord) :
    enterFaults p (a ++ b) r = enterFaults p b (enterFaults p a r) := by
  simp [enterFaults]

theorem enterFaults_cons (p : Port) (x : Port × AccessFault) (a : List (Port × AccessFault)) (r : FaultRecord) :
    enterFaults p (x :: a) r = enterFaults p a (if x.1 = p then r.enter x.2 else r) := by
  by_cases h : x.1 = p <;> simp [enterFaults, h]

/-- R128: the fault record of a port. -/
def State.faultOf (s : State) (p : Port) : FaultRecord := (s.link p).fault

theorem faultOf_of_keeps {may : List Part} {s t : State} (h : KeepsAllBut may s t) (p : Port)
    (hl : .links ∉ may := by decide) : t.faultOf p = s.faultOf p := by
  rw [State.faultOf, State.faultOf, h.link p hl]

theorem faultOf_enterFault (q : Port) (f : AccessFault) (s : State) (p : Port) :
    (enterFault q f s).faultOf p = enterFaults p [(q, f)] (s.faultOf p) := by
  obtain ⟨hself, hother⟩ := enterFault_entered q f s
  rw [enterFaults_cons]
  by_cases h : q = p
  · subst h; rw [State.faultOf, hself, if_pos rfl]; rfl
  · rw [State.faultOf, hother p (Ne.symm h), if_neg h]; rfl

/-! ### The accesses of a lost target -/

theorem faultOf_foldl_discardWrite (ws : List PostedWrite) (s : State) (p : Port) :
    (ws.foldl discardWrite s).faultOf p =
      enterFaults p (ws.map fun w => (w.port, w.fault .writeLost)) (s.faultOf p) := by
  induction ws generalizing s with
  | nil => rfl
  | cons w ws ih =>
    rw [List.foldl_cons, ih, List.map_cons, enterFaults_cons, State.faultOf, link_discardWrite]
    rfl

/-- R160.2: with no pending read for the target nothing is dropped. -/
theorem dropRead_of_ne {t : TargetIx} {s : State} (h : ∀ x, s.read = some x → x.target ≠ t) :
    dropRead t s = s := by
  unfold dropRead
  split
  · rfl
  · next x hx => rw [if_neg (h x hx)]

/-- R160.2: the pending read for the target is dropped. -/
theorem dropRead_of_eq {t : TargetIx} {s : State} {x : PendingRead} (hx : s.read = some x) (ht : x.target = t) :
    dropRead t s = readEnded (if x.deliver then
        answerBus (.error (zeroWords x.burst.words))
          (enterFault x.port (x.fault .targetDown) { s with read := none })
      else { s with read := none }) := by
  simp [dropRead, hx, ht]

theorem faultOf_dropRead (t : TargetIx) (s : State) (p : Port) : (dropRead t s).faultOf p =
    enterFaults p ((s.read.filter fun x => x.target == t && x.deliver).toList.map
      fun x => (x.port, x.fault .targetDown)) (s.faultOf p) := by
  cases hx : s.read with
  | none => rw [dropRead_of_ne (by simp [hx])]; rfl
  | some x =>
    by_cases ht : x.target = t
    · rw [dropRead_of_eq hx ht, faultOf_of_keeps (readEnded_keeps _)]
      cases hd : x.deliver with
      | true =>
        have hkeeps : KeepsAllBut [.read] s { s with read := none } := keeps_read s none
        rw [if_pos rfl, faultOf_of_keeps (answerBus_keeps _ _), faultOf_enterFault, faultOf_of_keeps hkeeps]
        simp [Option.filter, ht, hd]
      | false =>
        rw [if_neg (by decide), faultOf_of_keeps (keeps_read s none)]
        simp [Option.filter, hd, enterFaults]
    · rw [dropRead_of_ne (by simp [hx, ht])]
      simp [Option.filter, ht, enterFaults]

/-- R122: with no write stalled for the target nothing is refused. -/
theorem refuseStalledFor_of_ne {t : TargetIx} {s : State} (h : ∀ w, s.stalled = some w → w.target ≠ t) :
    refuseStalledFor t s = s := by
  unfold refuseStalledFor
  split
  · rfl
  · next w hw => rw [if_neg (h w hw)]

theorem refuseStalledFor_of_eq {t : TargetIx} {s : State} {w : PostedWrite} (hw : s.stalled = some w)
    (ht : w.target = t) : refuseStalledFor t s = refuseStalled .targetDown s := by
  simp [refuseStalledFor, hw, ht]

theorem faultOf_refuseStalledFor (t : TargetIx) (s : State) (p : Port) : (refuseStalledFor t s).faultOf p =
    enterFaults p ((s.stalled.filter fun w => w.target == t).toList.map
      fun w => (w.port, w.fault .targetDown)) (s.faultOf p) := by
  cases hw : s.stalled with
  | none => rw [refuseStalledFor_of_ne (by simp [hw])]; rfl
  | some w =>
    by_cases ht : w.target = t
    · have hkeeps : KeepsAllBut [.stalled] s { s with stalled := none } := keeps_stalled s none
      rw [refuseStalledFor_of_eq hw ht, refuseStalled_some hw, faultOf_of_keeps (answerBus_keeps _ _),
        faultOf_enterFault, faultOf_of_keeps hkeeps]
      simp [Option.filter, ht]
    · rw [refuseStalledFor_of_ne (by simp [hw, ht])]
      simp [Option.filter, ht, enterFaults]

/-! ### The stages of the loss step -/

section
variable (t : TargetIx) (f : LastFault) (s : State)

theorem discardWrites_offline_keeps :
    KeepsAllBut [.directory, .links, .queue, .targets] s (discardWrites t (s.offline t f)) :=
  ((keeps_setTarget s t _).mono (by simp)).trans ((discardWrites_keeps t _).mono (by simp))

theorem dropRead_discardWrites_keeps :
    KeepsAllBut [.directory, .links, .queue, .targets, .answer, .read, .arbiter] s
      (dropRead t (discardWrites t (s.offline t f))) :=
  ((discardWrites_offline_keeps t f s).mono (by simp)).trans ((dropRead_keeps t _).mono (by simp))

/-- R160: the faults that the loss of target `t` enters, in their order. -/
def State.lostFaults : List (Port × AccessFault) :=
  (s.queue.filter fun w => w.target == t).map (fun w => (w.port, w.fault .writeLost)) ++
    (s.read.filter fun x => x.target == t && x.deliver).toList.map (fun x => (x.port, x.fault .targetDown)) ++
    (s.stalled.filter fun w => w.target == t).toList.map (fun w => (w.port, w.fault .targetDown))

theorem faultOf_accessesLost (p : Port) :
    (accessesLost t f s).faultOf p = enterFaults p (s.lostFaults t) (s.faultOf p) := by
  have hstart : ({ s.offline t f with queue := (s.offline t f).queue.filter fun w => !(w.target == t) } :
      State).faultOf p = s.faultOf p := rfl
  rw [accessesLost, faultOf_refuseStalledFor, faultOf_dropRead, discardWrites, faultOf_foldl_discardWrite,
    hstart, ← discardWrites, (dropRead_discardWrites_keeps t f s).stalled,
    (discardWrites_offline_keeps t f s).read, State.lostFaults, enterFaults_append, enterFaults_append]
  rfl

theorem faultOf_answerLostCloses (p : Port) (u : State) : (answerLostCloses t u).faultOf p = u.faultOf p := by
  have hwalk : ∀ (is : List EntryIx) (u : State),
      (is.foldl (answerLostClose t) u).faultOf p = u.faultOf p := by
    intro is
    induction is with
    | nil => exact fun _ => rfl
    | cons i is ih =>
      intro u
      rw [List.foldl_cons, ih, State.faultOf, link_answerLostClose]
      rfl
  exact hwalk allEntries u

theorem faultOf_refuseWaiters (g : Waiter → Bool) (r : RefuseReason) (u : State) (p : Port) :
    (refuseWaiters g r u).faultOf p = u.faultOf p := by
  have hlink := congrArg LinkUnit.fault (link_refuseWaiters g r u p)
  exact hlink

/-- R128, R160: the faults of the loss step. -/
theorem faultOf_loseTarget (p : Port) :
    (loseTarget t f s).faultOf p = enterFaults p (s.lostFaults t) (s.faultOf p) := by
  have hleases : (leasesLost t f s).faultOf p = (accessesLost t f s).faultOf p :=
    (faultOf_of_keeps (keeps_entries _ _) p).trans (faultOf_answerLostCloses t p _)
  rw [loseTarget_eq, faultOf_refuseWaiters, hleases, faultOf_accessesLost]

/-! ### The answer on the initiator bus -/

theorem answer_loseTarget :
    (loseTarget t f s).answer = (refuseStalledFor t (dropRead t (discardWrites t (s.offline t f)))).answer :=
  (loseTarget_from_leases t f s).answer.trans (leasesLost_keeps t f s).answer

/-- R122: a write stalled for the target ends its cycle with IERR. -/
theorem answer_loseTarget_stalled {w : PostedWrite} (hw : s.stalled = some w) (ht : w.target = t) :
    (loseTarget t f s).answer = some { acks := 0, ierr := true, words := [] } := by
  have hstill := (dropRead_discardWrites_keeps t f s).stalled.trans hw
  rw [answer_loseTarget, refuseStalledFor_of_eq hstill ht, refuseStalled_some hstill]
  rfl

theorem answer_loseTarget_of_ne (hw : ∀ w, s.stalled = some w → w.target ≠ t) :
    (loseTarget t f s).answer = (dropRead t (discardWrites t (s.offline t f))).answer := by
  rw [answer_loseTarget, refuseStalledFor_of_ne]
  rwa [(dropRead_discardWrites_keeps t f s).stalled]

/-- R116, R160: a delivered read of the target ends its cycle with IERR and zero words. -/
theorem answer_loseTarget_read (hw : s.stalled = none) {x : PendingRead} (hx : s.read = some x)
    (ht : x.target = t) (hd : x.deliver = true) : (loseTarget t f s).answer =
      some { acks := 0, ierr := true, words := List.replicate x.burst.words 0 } := by
  rw [answer_loseTarget_of_ne t f s (by simp [hw]),
    dropRead_of_eq ((discardWrites_offline_keeps t f s).read.trans hx) ht, (readEnded_keeps _).answer,
    if_pos hd]
  rfl

theorem answer_loseTarget_silent (hw : ∀ w, s.stalled = some w → w.target ≠ t)
    (hx : ∀ x, s.read = some x → x.target = t → x.deliver = false) :
    (loseTarget t f s).answer = s.answer := by
  have hbefore := discardWrites_offline_keeps t f s
  rw [answer_loseTarget_of_ne t f s hw]
  cases hread : s.read with
  | none => rw [dropRead_of_ne (by simp [hbefore.read, hread]), hbefore.answer]
  | some x =>
    by_cases ht : x.target = t
    · rw [dropRead_of_eq (hbefore.read.trans hread) ht, (readEnded_keeps _).answer,
        if_neg (by simp [hx x hread ht])]
      exact hbefore.answer
    · rw [dropRead_of_ne (by simpa [hbefore.read, hread] using ht), hbefore.answer]

/-! ### The CLOSEs that the loss answers -/

open Classical in
/-- R161: the loss step answers the CLOSE of a CLOSING entry of its port on the target with end code 03H. -/
theorem link_answerLostCloses_of_waits {u : State} {p : Port} {i : EntryIx} {tag : Byte} {r : Request} {n : Nat}
    (hlost : u.lostCloseAt t p i) (hk : (u.link p).link =
      .command { tag := tag, request := r, closing := some { index := i, found := n } }) :
    ((answerLostCloses t u).link p).link =
      .responseReady { tag := tag, status := .ok, results := [byteOf n, 0x03] } := by
  have hstays : ∀ (is : List EntryIx) (v : State) (x : Response), (v.link p).link = .responseReady x →
      ((is.foldl (answerLostClose t) v).link p).link = .responseReady x := by
    intro is
    induction is with
    | nil => exact fun _ _ h => h
    | cons j is ih =>
      intro v x h
      refine ih _ x ?_
      rw [link_answerLostClose, h]
      simp [LinkState.closedWith]
  have hwalk : ∀ (is : List EntryIx) (v : State), i ∈ is → (∀ j, v.lease j = u.lease j) →
      (v.link p).link = .command { tag := tag, request := r, closing := some { index := i, found := n } } →
      ((is.foldl (answerLostClose t) v).link p).link =
        .responseReady { tag := tag, status := .ok, results := [byteOf n, 0x03] } := by
    intro is
    induction is with
    | nil => exact fun _ h => nomatch h
    | cons j is ih =>
      intro v hmem hv h
      have hstep : ((answerLostClose t v j).link p).link = if v.lostCloseAt t p j then
          (v.link p).link.closedWith 0x03 j else (v.link p).link := by rw [link_answerLostClose]
      rw [h, LinkState.closedWith_of_waitsOn] at hstep
      by_cases hij : i = j
      · subst hij
        rw [if_pos ((lostCloseAt_congr hv t p i).mpr hlost), if_pos rfl] at hstep
        exact hstays is _ _ hstep
      · rw [if_neg hij, ite_self] at hstep
        exact ih _ ((List.mem_cons.mp hmem).resolve_left hij)
          (fun k => ((answerLostClose_keeps t v j).lease k).trans (hv k)) hstep
  exact hwalk allEntries u (mem_allEntries i) (fun _ => rfl) hk

/-- R160.1: the leases before they are settled. -/
theorem lease_accessesLost (i : EntryIx) : (accessesLost t f s).lease i =
    (s.lease i).map (·.withLost (s.queue.any fun w => w.target == t && w.handle.index == i)) := by
  have hkeeps : KeepsAllBut [.links, .arbiter, .stalled, .answer, .read]
      (discardWrites t (s.offline t f)) (accessesLost t f s) :=
    ((dropRead_keeps t _).mono (by simp)).trans ((refuseStalledFor_keeps t _).mono (by simp))
  rw [hkeeps.lease, State.lease, entry_discardWrites, Entry.withLost_lease]
  rfl

theorem link_loseTarget_of_waits {p : Port} {i : EntryIx} {l : Lease} (hl : s.lease i = some l)
    (ht : l.claim.target = t) (hs : l.state = .closing) (hp : l.holder = p) {tag : Byte} {r : Request} {n : Nat}
    (hk : (s.link p).link =
      .command { tag := tag, request := r, closing := some { index := i, found := n } }) :
    ((loseTarget t f s).link p).link =
      .responseReady { tag := tag, status := .ok, results := [byteOf n, 0x03] } := by
  have hlease := lease_accessesLost t f s i
  rw [hl, Option.map_some] at hlease
  rw [commands_loseTarget]
  exact link_answerLostCloses_of_waits t (i := i) (r := r) ⟨_, hlease, ht, hs, hp⟩
    ((sameCommands_accessesLost t f s p).trans hk)

/-! ### The leases -/

theorem generation_loseTarget (i : EntryIx) :
    ((loseTarget t f s).entry i).generation = (s.entry i).generation := by
  rw [entry_loseTarget, Entry.settleLost_eq]
  rfl

theorem lease_loseTarget_of_eq {i : EntryIx} {l : Lease} (hl : s.lease i = some l) (ht : l.claim.target = t) :
    (loseTarget t f s).lease i =
      (l.withLost (s.queue.any fun w => w.target == t && w.handle.index == i)).settleLost := by
  rw [lease_loseTarget, hl, Option.bind_some, if_pos ht]

theorem lease_loseTarget_of_ne {i : EntryIx} {l : Lease} (hl : s.lease i = some l) (ht : l.claim.target ≠ t)
    (hq : ∀ w, w ∈ s.queue → w.target = t → w.handle.index ≠ i) : (loseTarget t f s).lease i = some l := by
  have hnone : (s.queue.any fun w => w.target == t && w.handle.index == i) = false := by
    simpa using hq
  rw [lease_loseTarget, hl, Option.bind_some, if_neg ht, hnone, Lease.withLost_false]

end

/-- R160.4, R160.5: what a lease on the lost target becomes, state by state. -/
theorem Lease.settleLost_withLost (l : Lease) (b : Bool) :
    let settled : Lease := { l with outstanding := 0, boundaryDue := false }
    let lost := l.marks.writeLost || b
    (HeldOrParked l → (l.withLost b).settleLost = some { settled with
      state := .revoked .targetLost, marks := { l.marks with revoked := true, writeLost := lost } }) ∧
    (∀ r c, l.state = .revoking r c → (l.withLost b).settleLost = if r = .portReset ∨ c = true then none
      else some { settled with
        state := .revoked r, marks := { l.marks with revoked := true, writeLost := lost } }) ∧
    (∀ r, l.state = .revoked r →
      (l.withLost b).settleLost = some { settled with marks := { l.marks with writeLost := lost } }) ∧
    (l.state = .closing → (l.withLost b).settleLost = none) := by
  have hstate : (l.withLost b).state = l.state := rfl
  unfold Lease.settleLost
  rw [hstate]
  dsimp only
  refine ⟨fun h => ?_, fun r c h => ?_, fun r h => ?_, fun h => ?_⟩
  · rcases h with h | h <;> rw [h] <;> rfl
  · simp [h, Lease.drained, Lease.withLost]
  · rw [h]; simp [Lease.withLost, h]
  · rw [h]

/-- Settles O60: the loss step settles the target, its accesses, its waiters and its leases. -/
theorem lossSettlesTheTarget : Obligations.LossSettlesTheTarget := by
  intro s t f
  have hticket := ticket_loseTarget t f s
  refine ⟨target_loseTarget_self t f s, fun v hv => target_loseTarget_of_ne t f s hv, queue_loseTarget t f s,
    waitList_loseTarget t f s, read_loseTarget t f s, stalled_loseTarget t f s,
    fun w hw ht => answer_loseTarget_stalled t f s hw ht,
    fun hw x hx ht hd => answer_loseTarget_read t f s hw hx ht hd,
    fun hw hx => answer_loseTarget_silent t f s hw hx, fun p => faultOf_loseTarget t f s p,
    fun x hx ht hbus => ?_, fun h => ?_, fun p k => ?_,
    fun i => ⟨generation_loseTarget t f s i, fun hi => by rw [lease_loseTarget, hi]; rfl⟩,
    fun i l hl ht => ?_, fun i l hl ht hq => lease_loseTarget_of_ne t f s hl ht hq, loseTarget_keeps t f s⟩
  · rw [arb_loseTarget, if_pos (by simpa [hx] using ht), arb_readEnded, if_pos hbus]
  · rw [arb_loseTarget, arb_readEnded]
    rcases h with hbus | hread
    · rw [if_neg hbus, ite_self]
    · rw [if_neg (by simpa [Option.any_eq_true] using hread)]
  · rw [hticket, sameTickets_leasesLost]
  · obtain ⟨hheld, hrevoking, hrevoked, hclosing⟩ :=
      l.settleLost_withLost (s.queue.any fun w => w.target == t && w.handle.index == i)
    rw [lease_loseTarget_of_eq t f s hl ht]
    exact ⟨hheld, hrevoking, hrevoked, fun hs => ⟨hclosing hs, fun tag r n hk =>
      link_loseTarget_of_waits t f s hl ht hs rfl hk⟩⟩

end Sys2Proof.Machine
end

section
/-! The tick, the expiries and a reference period (R37, R45, R50, R103, R106, R135). -/

namespace Sys2Proof.Machine

/-! ### A tick -/

theorem HeldOrParked.ticked {l : Lease} (h : HeldOrParked l) :
    (2 ≤ l.interval → l.ticked = { l with interval := l.interval - 1 }) ∧
      (l.interval ≤ 1 → l.ticked = { l with boundaryDue := true }) := by
  unfold Lease.ticked
  rw [if_pos (running_iff.mpr h)]
  exact ⟨fun hn => if_neg (by omega), fun hn => if_pos hn⟩

theorem Lease.ticked_of_not {l : Lease} (h : ¬ HeldOrParked l) : l.ticked = l :=
  if_neg fun hr => h (running_iff.mp hr)

theorem Timer.ticked_stopped {t : Timer} (h : t.running = false) : t.ticked = t := by
  rw [Timer.ticked, if_neg (by simp [h])]

theorem Timer.ticked_running {t : Timer} (h : t.running = true) :
    (2 ≤ t.count → t.ticked = { t with count := t.count - 1 }) ∧
      (t.count ≤ 1 → t.ticked = { t with due := true }) := by
  unfold Timer.ticked
  rw [if_pos h]
  exact ⟨fun hn => if_neg (by omega), fun hn => if_pos hn⟩

theorem entry_deliverTick (s : State) (i : EntryIx) : (deliverTick s).entry i = (s.entry i).ticked :=
  getElem_vmap _ _ i

theorem lease_deliverTick (s : State) (i : EntryIx) :
    (deliverTick s).lease i = (s.lease i).map Lease.ticked := by
  rw [State.lease, entry_deliverTick]
  rfl

theorem deliverTick_keeps (s : State) :
    KeepsAllBut [.clock, .directory, .waitList, .arbiter] s (deliverTick s) :=
  fun x hx => by cases x <;> simp_all [Part.same, deliverTick]

theorem exec_tick {s : State} (hlive : s.resetLow = false) : exec .tick s = .next (takeTick s) :=
  whenLive_live hlive _

/-- Settles O46: with nothing due, a tick is delivered to every timer that counts ticks. -/
theorem tickCountsInEveryTimer : Obligations.TickCountsInEveryTimer := by
  intro s hlive hboundary hwait hhold hgrace
  have hnone : settleExpiries s = s := settleExpiries_notDue ⟨hboundary, hwait, hhold, hgrace⟩
  refine ⟨deliverTick s, ?_, rfl, fun i => ⟨?_, fun hl => ?_, fun l hl hn => ?_, fun l hl hp => ?_⟩, rfl,
    Timer.ticked_stopped, Timer.ticked_running, Timer.ticked_stopped, Timer.ticked_running, rfl,
    deliverTick_keeps s⟩
  · rw [exec_tick hlive, takeTick, hnone]
  · rw [entry_deliverTick]; rfl
  · rw [lease_deliverTick, hl]; rfl
  · rw [lease_deliverTick, hl, Option.map_some, Lease.ticked_of_not hn]
  · obtain ⟨hcount, hdue⟩ := hp.ticked
    rw [lease_deliverTick, hl, Option.map_some]
    exact ⟨fun hi => congrArg some (hcount hi), fun hi => congrArg some (hdue hi)⟩

/-! ### Requests that wait or have left -/

/-- The requests of a ticket on the wait list. -/
def State.waiting (s : State) (p : Port) (k : Slot) : List Waiter := s.waitList.filter (Waiter.isOf p k)

/-- R26: no request of the ticket waits, and the ticket has been granted or refused. -/
def State.Settled (s : State) (p : Port) (k : Slot) : Prop :=
  s.waiting p k = [] ∧ (s.ticket p k).attends = true

/-- A part of a step that leaves but these records as they are, and in which a ticket's only request either
goes on waiting or leaves with its ticket settled, and a settled ticket stays so. -/
structure Elapses (may : List Part) (s t : State) : Prop where
  keeps : KeepsAllBut may s t
  waits : ∀ p k w, s.waiting p k = [w] → t.waiting p k = [w] ∨ t.Settled p k
  settled : ∀ p k, s.Settled p k → t.Settled p k

section
variable {may may' : List Part} {s t u : State}

theorem Elapses.trans (h : Elapses may s t) (h' : Elapses may t u) : Elapses may s u where
  keeps := h.keeps.trans h'.keeps
  waits p k w hw := (h.waits p k w hw).elim (h'.waits p k w) fun hs => .inr (h'.settled p k hs)
  settled p k hs := h'.settled p k (h.settled p k hs)

theorem Elapses.mono (h : Elapses may s t) (hm : ∀ x, x ∈ may → x ∈ may' := by simp) : Elapses may' s t :=
  ⟨h.keeps.mono hm, h.waits, h.settled⟩

/-- A part of a step that does not touch the wait list and the tickets. -/
theorem Elapses.of_same (h : KeepsAllBut may s t) (ht : SameTickets s t)
    (hw : .waitList ∉ may := by decide) : Elapses may s t := by
  have hlist : ∀ p k, t.waiting p k = s.waiting p k := fun p k => by
    rw [State.waiting, State.waiting, h.waitList hw]
  refine ⟨h, fun p k w hs => .inl ((hlist p k).trans hs), fun p k hs => ?_⟩
  rwa [State.Settled, hlist, ht p k]

theorem Elapses.of_keeps (h : KeepsAllBut may s t) (hl : .links ∉ may := by decide)
    (hw : .waitList ∉ may := by decide) : Elapses may s t := .of_same h (.of_keeps h hl) hw

theorem Elapses.refl (s : State) : Elapses may s s :=
  ⟨.refl _ s, fun _ _ _ => .inl, fun _ _ => id⟩

/-- A part of a step in which requests leave the list, each with its ticket settled. -/
theorem Elapses.of_leave (h : KeepsAllBut may s t) (hsub : t.waitList.Sublist s.waitList)
    (hstay : ∀ p k, s.Settled p k → (t.ticket p k).attends = true)
    (hgone : ∀ w, w ∈ s.waitList → s.waiting w.port w.slot = [w] → w ∉ t.waitList →
      (t.ticket w.port w.slot).attends = true) : Elapses may s t := by
  have hsublist : ∀ p k, (t.waiting p k).Sublist (s.waiting p k) := fun _ _ => hsub.filter _
  refine ⟨h, fun p k w hw => ?_, fun p k hs => ⟨?_, hstay p k hs⟩⟩
  · have hmem : w ∈ s.waitList ∧ Waiter.isOf p k w = true :=
      List.mem_filter.mp (by rw [← State.waiting, hw]; exact .head _)
    obtain ⟨hp, hk⟩ : w.port = p ∧ w.slot = k := by simpa [Waiter.isOf] using hmem.2
    subst hp hk
    rcases List.sublist_singleton.mp (hw ▸ hsublist w.port w.slot) with hnone | hone
    · refine .inr ⟨hnone, hgone w hmem.1 hw fun hin => ?_⟩
      have : w ∈ t.waiting w.port w.slot := List.mem_filter.mpr ⟨hin, hmem.2⟩
      rw [hnone] at this
      cases this
    · exact .inl hone
  · exact List.sublist_nil.mp (hs.1 ▸ hsublist p k)

theorem Elapses.foldl {α : Type} {f : State → α → State} (hf : ∀ s a, Elapses may s (f s a)) (l : List α)
    (s : State) : Elapses may s (l.foldl f s) := by
  induction l generalizing s with
  | nil => exact .refl s
  | cons a l ih => exact (hf s a).trans (ih _)

end

theorem waitersOf_eq_length (s : State) (p : Port) (k : Slot) : s.waitersOf p k = (s.waiting p k).length :=
  List.countP_eq_length_filter

theorem elapses_scan (s : State) : Elapses [.directory, .links, .waitList] s (scan s) := by
  obtain ⟨granted, h⟩ := scan_scanned s
  have hcount : ∀ p k, s.waitList.countP (Waiter.isOf p k) = (s.waiting p k).length := waitersOf_eq_length s
  refine .of_leave (scan_keeps s) h.sublist (fun p k hs => ?_) fun w hw hone hgone => ?_
  · rw [h.ticket p k (by rw [hcount, hs.1]; rfl)]
    exact hs.2
  · have hgranted : w ∈ granted := (List.mem_append.mp (h.perm.mem_iff.mp hw)).resolve_right hgone
    obtain ⟨i, -, -, hticket⟩ := h.grant w hgranted
    rw [hticket (by rw [hcount, hone]; rfl)]
    rfl

theorem elapses_scanIf (b : Bool) (s : State) : Elapses [.directory, .links, .waitList] s (scanIf b s) := by
  unfold scanIf
  split
  · exact elapses_scan s
  · exact .refl s

/-! ### The expiries -/

theorem sameTickets_revokeEntry (i : EntryIx) (r : RevokeReason) (l : Lease) (s : State) :
    SameTickets s (revokeEntry i r l s) := by
  refine SameTickets.trans ?_ (.of_keeps (keeps_setLease _ i _))
  unfold refuseStalledUnder
  split
  · exact .refl s
  · next w hw =>
    split
    · rw [refuseStalled_some hw]
      exact sameTickets_enterFault _ _ _
    · exact .refl s

theorem elapses_takeBoundary (i : EntryIx) (s : State) :
    Elapses [.directory, .links, .waitList, .stalled, .answer] s (takeBoundary i s) := by
  unfold takeBoundary
  split
  · exact .refl s
  · next l hl =>
    split
    · dsimp only
      split
      · split
        · exact (Elapses.of_keeps (keeps_setLease s i _)).mono
        · exact (Elapses.of_same (revokeEntry_keeps _ _ _ s) (sameTickets_revokeEntry _ _ _ s)).mono.trans
            (elapses_scanIf _ _).mono
      · exact (Elapses.of_keeps (keeps_setLease s i _)).mono
      · exact .refl s
    · exact .refl s

/-- R37, R39: a request leaves the list with its ticket refused. -/
theorem elapses_refuseTicket (p : Port) (k : Slot) (r : RefuseReason) (s : State) :
    Elapses [.links, .waitList] s ((dropWaiter p k s).setTicket p k (.refused r)) := by
  have hkeeps : KeepsAllBut [.links, .waitList] s ((dropWaiter p k s).setTicket p k (.refused r)) :=
    ((keeps_waitList s _).mono (by simp)).trans ((keeps_setTicket _ p k _).mono (by simp))
  refine .of_leave hkeeps List.filter_sublist (fun q j hs => ?_) fun w hw _ hgone => ?_
  · by_cases h : q = p ∧ j = k
    · obtain ⟨rfl, rfl⟩ := h
      rw [ticket_setTicket_self]; rfl
    · rw [ticket_setTicket_of_ne _ _ h]
      exact hs.2
  · have hof : w.port = p ∧ w.slot = k := by
      by_contra hno
      exact hgone (List.mem_filter.mpr ⟨hw, by simpa [← not_and_or] using hno⟩)
    obtain ⟨rfl, rfl⟩ := hof
    rw [ticket_setTicket_self]; rfl

theorem elapses_takeWaitExpiry (p : Port) (k : Slot) (s : State) :
    Elapses [.directory, .links, .waitList] s (takeWaitExpiry p k s) := by
  unfold takeWaitExpiry
  split
  · exact .refl s
  · split
    · exact (elapses_refuseTicket p k .waitExpired s).mono.trans (elapses_scan _)
    · exact .refl s

/-- R37: a request whose wait limit has expired leaves the list. -/
theorem settled_takeWaitExpiry {s : State} {p : Port} {k : Slot} {w : Waiter} (hw : s.waiting p k = [w])
    (hdue : w.due = true) : (takeWaitExpiry p k s).Settled p k := by
  have hfind : s.waiterAt p k = some w := by
    rw [State.waiterAt, ← List.head?_filter]
    exact congrArg List.head? hw
  have hleft : ((dropWaiter p k s).setTicket p k (.refused .waitExpired)).Settled p k := by
    refine ⟨List.filter_eq_nil_iff.mpr fun v hv => ?_, by rw [ticket_setTicket_self]; rfl⟩
    simpa [Waiter.isOf, imp_iff_not_or] using (List.mem_filter.mp hv).2
  unfold takeWaitExpiry
  rw [hfind]
  dsimp only
  rw [if_pos hdue]
  exact (elapses_scan _).settled p k hleft

theorem elapses_takePreemption (s : State) :
    Elapses [.arbiter, .links, .stalled, .answer, .read] s (takePreemption s) := by
  unfold takePreemption
  split
  · split
    · exact (Elapses.of_keeps (keeps_arb s _)).mono.trans <|
        (Elapses.of_same (enterFault_keeps _ _ _) (sameTickets_enterFault _ _ _)).mono.trans <|
        (Elapses.of_keeps (endInHand_keeps true _)).mono.trans (Elapses.of_keeps (loseGrant_keeps _ _ _)).mono
    · exact .refl s
  · exact .refl s

/-- R50: the boundaries that are due have been taken. -/
def State.boundariesTaken (s : State) : State := allEntries.foldl (fun s i => takeBoundary i s) s

/-- R37: the wait limits of these tickets that are due have been taken. -/
def State.waitsTaken (s : State) (l : List (Port × Slot)) : State :=
  l.foldl (fun s x => takeWaitExpiry x.1 x.2 s) s

theorem settleExpiries_eq (s : State) :
    settleExpiries s = takePreemption (takeHoldExpiry (s.boundariesTaken.waitsTaken allSlots)) := rfl

theorem elapses_boundariesTaken (s : State) :
    Elapses [.directory, .links, .waitList, .stalled, .answer] s s.boundariesTaken :=
  .foldl (fun s i => elapses_takeBoundary i s) allEntries s

theorem elapses_waitsTaken (s : State) (l : List (Port × Slot)) :
    Elapses [.directory, .links, .waitList] s (s.waitsTaken l) :=
  .foldl (fun s (x : Port × Slot) => elapses_takeWaitExpiry x.1 x.2 s) l s

theorem elapses_settleExpiries (s : State) :
    Elapses [.directory, .links, .waitList, .arbiter, .stalled, .answer, .read] s (settleExpiries s) := by
  rw [settleExpiries_eq]
  exact (elapses_boundariesTaken s).mono.trans <| (elapses_waitsTaken _ allSlots).mono.trans <|
    (Elapses.of_keeps (takeHoldExpiry_keeps _)).mono.trans (elapses_takePreemption _).mono

theorem settled_waitsTaken {p : Port} {k : Slot} {w : Waiter} (hdue : w.due = true) {l : List (Port × Slot)}
    (hmem : (p, k) ∈ l) {s : State} (hs : s.waiting p k = [w] ∨ s.Settled p k) :
    (s.waitsTaken l).Settled p k := by
  induction l generalizing s with
  | nil => cases hmem
  | cons x l ih =>
    have hstep := elapses_takeWaitExpiry x.1 x.2 s
    by_cases hx : x = (p, k)
    · subst hx
      exact (elapses_waitsTaken (takeWaitExpiry p k s) l).settled p k
        (hs.elim (settled_takeWaitExpiry · hdue) (hstep.settled p k))
    · exact ih ((List.mem_cons.mp hmem).resolve_left (Ne.symm hx))
        (hs.elim (hstep.waits p k w) fun h => .inr (hstep.settled p k h))

/-- R37: a request whose wait limit has expired is off the list once the expiries have been taken. -/
theorem settled_settleExpiries {s : State} {p : Port} {k : Slot} {w : Waiter} (hw : s.waiting p k = [w])
    (hdue : w.due = true) : (settleExpiries s).Settled p k := by
  have hslot : ∀ p k, (p, k) ∈ allSlots := by decide
  have hwaits : (s.boundariesTaken.waitsTaken allSlots).Settled p k :=
    settled_waitsTaken hdue (hslot p k) ((elapses_boundariesTaken s).waits p k w hw)
  rw [settleExpiries_eq]
  exact (elapses_takePreemption _).settled p k
    ((Elapses.of_keeps (takeHoldExpiry_keeps _)).settled p k hwaits)

/-! ### The engine's period -/

/-- The records that an engine's period can change. -/
abbrev engineParts : List Part :=
  [.directory, .links, .waitList, .arbiter, .stalled, .answer, .queue, .read, .targets, .probes, .current,
    .lastEnd]

theorem elapses_loseTarget (t : TargetIx) (f : LastFault) (s : State) :
    Elapses engineParts s (loseTarget t f s) := by
  have hticket : ∀ p k, (loseTarget t f s).ticket p k =
      if s.waitList.any (fun w => w.claim.target == t && w.port == p && w.slot == k) then
        .refused .targetDown
      else s.ticket p k := fun p k => by rw [ticket_loseTarget, sameTickets_leasesLost]
  refine .of_leave ((loseTarget_keeps t f s).mono (by simp))
    (by rw [waitList_loseTarget]; exact List.filter_sublist) (fun p k hs => ?_) fun w hw _ hgone => ?_
  · rw [hticket]
    split
    · rfl
    · exact hs.2
  · rw [waitList_loseTarget] at hgone
    have ht : w.claim.target = t := by
      by_contra hno
      exact hgone (List.mem_filter.mpr ⟨hw, by simpa using hno⟩)
    rw [hticket, if_pos (List.any_eq_true.mpr ⟨w, hw, by simp [ht]⟩)]
    rfl

theorem elapses_reportEnd (late : Bool) (t : TargetIx) (s : State) :
    Elapses engineParts s (reportEnd late t s).1 := by
  have hset : ∀ r, Elapses engineParts s (s.setTarget t r) :=
    fun r => (Elapses.of_keeps (keeps_setTarget s t r)).mono
  unfold reportEnd
  split
  · unfold reportTimeout
    dsimp only
    split
    · exact hset _
    · dsimp only
      exact (hset _).trans (elapses_loseTarget t _ _)
    · exact .refl s
  · unfold reportCompletion
    dsimp only
    split
    · exact hset _
    · exact hset _

theorem elapses_endStep (b : Bool) (s : State) : Elapses engineParts s (endStep b s) :=
  (elapses_scanIf b s).mono.trans <| (Elapses.of_keeps (admitStalled_keeps _)).mono.trans
    (Elapses.of_keeps (startNext_keeps _)).mono

theorem elapses_finishAccess (h : Handle) (lost : Bool) (s : State) :
    Elapses engineParts s (finishAccess h lost s).1 :=
  (Elapses.of_same (finishAccess_keeps h lost s) (sameTickets_finishAccess h lost s)).mono

theorem elapses_endWrite (late : Bool) (n : Nat) (s : State) :
    Elapses engineParts s (endWrite late n s) := by
  cases hq : s.queue with
  | nil => unfold endWrite; rw [hq]; exact .refl s
  | cons w rest =>
    obtain ⟨e, f, r, rfl, -, rfl, hend⟩ := endWrite_cons hq late n
    rw [hend]
    refine .trans ?_ (elapses_endStep _ _)
    refine .trans ?_ (elapses_reportEnd _ _ _)
    refine (Elapses.of_keeps (withoutWrite_keeps s rest (some e))).mono.trans <|
      (elapses_finishAccess w.handle late _).trans ?_
    unfold faultLate
    split
    · exact (Elapses.of_same (enterFault_keeps _ _ _) (sameTickets_enterFault _ _ _)).mono
    · exact .refl _

theorem elapses_endRead (late : Bool) (n : Nat) (words : List Word) (s : State) :
    Elapses engineParts s (endRead late n words s) := by
  cases hx : s.read with
  | none => unfold endRead; rw [hx]; exact .refl s
  | some x =>
    obtain ⟨e, f, r, rfl, -, rfl, hend⟩ := endRead_some hx late n words
    rw [hend]
    refine .trans ?_ (elapses_endStep _ _)
    refine .trans ?_ (elapses_reportEnd _ _ _)
    exact (Elapses.of_keeps (withoutRead_keeps s (some e))).mono.trans <|
      (elapses_finishAccess _ _ _).trans <|
      (Elapses.of_same (returnRead_keeps _ _ _ _) (sameTickets_returnRead _ _ _ _)).mono.trans
        (Elapses.of_keeps (readEnded_keeps _)).mono

theorem elapses_reportProbeWord (t : TargetIx) (w : Word) (s : State) :
    Elapses engineParts s (reportProbeWord t w s).1 := by
  unfold reportProbeWord
  dsimp only
  split
  · exact (Elapses.of_keeps (keeps_setTarget s t _)).mono
  · dsimp only
    exact (Elapses.of_keeps (keeps_setTarget s t _)).mono.trans (elapses_loseTarget t _ _)

theorem elapses_endProbe (t : TargetIx) (w : Option Word) (s : State) :
    Elapses engineParts s (endProbe t w s) := by
  cases hx : s.probe t with
  | none => unfold endProbe; rw [hx]; exact .refl s
  | some x =>
    have hleft : ∀ e, Elapses engineParts s (s.withoutProbe t e) :=
      fun e => (Elapses.of_keeps (withoutProbe_keeps s t e)).mono
    cases w with
    | none =>
      rw [endProbe_late hx]
      exact (hleft _).trans ((elapses_loseTarget t _ _).trans (elapses_endStep _ _))
    | some w =>
      obtain ⟨r, rfl, hend⟩ := endProbe_word hx w
      rw [hend]
      exact (hleft _).trans ((elapses_reportProbeWord t w _).trans (elapses_endStep _ _))

theorem elapses_endCurrent (c : Current) (late : Bool) (s : State) :
    Elapses engineParts s (endCurrent c late s) := by
  unfold endCurrent
  split
  · exact elapses_endWrite _ _ s
  · split
    · exact elapses_endRead _ _ _ s
    · exact .refl s
  · split
    · exact elapses_endProbe _ _ s
    · exact .refl s

theorem takeWord_keeps (c : Current) (w : Word) (s : State) :
    KeepsAllBut [.read, .probes, .current] s (takeWord c w s) :=
  ((capture_keeps c.holding w s).mono (by simp)).trans ((keeps_current _ _).mono (by simp))

theorem elapses_enginePeriod (trdy : Bool) (td : Word) (s : State) :
    Elapses engineParts s (enginePeriod trdy td s) := by
  have hphase : ∀ c, Elapses engineParts s { s with current := some c } :=
    fun c => (Elapses.of_keeps (keeps_current s _)).mono
  unfold enginePeriod
  split
  · exact .refl s
  · next c hc =>
    split
    · exact hphase _
    · exact hphase _
    · split
      · exact (Elapses.of_keeps (takeWord_keeps c td s)).mono
      · split
        · exact hphase _
        · exact hphase _
    · exact elapses_endCurrent _ _ s

/-! ### A reference period -/

theorem waiting_deliverTick (s : State) (p : Port) (k : Slot) :
    (deliverTick s).waiting p k = (s.waiting p k).map Waiter.ticked := by
  have hof : Waiter.isOf p k ∘ Waiter.ticked = Waiter.isOf p k := by
    funext w
    have hfollow := w.follows_ticked
    simp [Waiter.isOf, hfollow.port, hfollow.slot]
  have hlist : (deliverTick s).waitList = s.waitList.map Waiter.ticked := rfl
  rw [State.waiting, hlist, List.filter_map, hof, State.waiting]

/-- R37: a request with one tick left is off the list once the expiries of that tick have been taken. -/
theorem settled_takeTick {s : State} {p : Port} {k : Slot} {w : Waiter}
    (h : s.waiting p k = [w] ∨ s.Settled p k) (hone : w.remaining = some 1) :
    (settleExpiries (takeTick s)).Settled p k := by
  have hbefore : (settleExpiries s).waiting p k = [w] ∨ (settleExpiries s).Settled p k :=
    h.elim ((elapses_settleExpiries s).waits p k w) fun hs => .inr ((elapses_settleExpiries s).settled p k hs)
  have hticked : w.ticked.due = true := by simp [Waiter.ticked, hone]
  unfold takeTick
  rcases hbefore with hw | ⟨hnone, hticket⟩
  · exact settled_settleExpiries (w := w.ticked) (by rw [waiting_deliverTick, hw]; rfl) hticked
  · refine (elapses_settleExpiries _).settled p k ⟨by rw [waiting_deliverTick, hnone]; rfl, ?_⟩
    have hsame : SameTickets _ (deliverTick (settleExpiries s)) := .of_keeps (deliverTick_keeps _)
    rwa [hsame p k]

/-- Log 2, log 3: the state of a reference period before the divider counts. -/
def State.beforeDivider (s : State) : State :=
  enginePeriod (Config.trdy s.periods) (Config.targetWord s.periods)
    (settleExpiries { s with periods := s.periods + 1 })

theorem elapses_beforeDivider (s : State) : Elapses (.periods :: engineParts) s s.beforeDivider :=
  (Elapses.of_keeps (keeps_periods s _)).mono.trans <| (elapses_settleExpiries _).mono.trans
    (elapses_enginePeriod _ _ _).mono

theorem refPeriod_live {s : State} (h : s.resetLow = false) : refPeriod s = dividerPeriod s.beforeDivider := by
  rw [refPeriod, if_neg (by simp [h]), State.beforeDivider]

theorem dividerPeriod_counts {s : State} (h : s.clock.count + 1 < 2 ^ (6 + s.clock.k)) :
    dividerPeriod s = { s with clock := { s.clock with count := s.clock.count + 1 } } :=
  if_neg (not_le.mpr h)

theorem dividerPeriod_ticks {s : State} (h : 2 ^ (6 + s.clock.k) ≤ s.clock.count + 1) :
    dividerPeriod s = settleExpiries (takeTick s) := if_pos h

/-- Settles O2: with no command waiting a reference period passes. -/
theorem emptyQueuePassesAPeriod : Obligations.EmptyQueuePassesAPeriod := by
  refine ⟨fun s hq => ⟨fun hlow => ?_, fun hlive => ⟨_, _, s.beforeDivider, rfl, fun hlt => ?_, fun hle => ?_⟩,
    fun w hlive hw hone hcount hle => ?_⟩, fun s h => settleExpiries_notDue h,
    fun s trdy td hc => by rw [enginePeriod, hc]⟩
  · rw [step_nil hq, refPeriod, if_pos hlow]
  · have hclock := (elapses_beforeDivider s).keeps.clock
    rw [step_nil hq, refPeriod_live hlive, dividerPeriod_counts (by rwa [hclock]), hclock]
  · have hclock := (elapses_beforeDivider s).keeps.clock
    refine ⟨takeTick s.beforeDivider,
      exec_tick ((elapses_beforeDivider s).keeps.resetLow.trans hlive), rfl, ?_⟩
    rw [step_nil hq, refPeriod_live hlive, dividerPeriod_ticks (by rwa [hclock])]
  · have hkeeps := elapses_beforeDivider s
    have hwaiting : s.waiting w.port w.slot = [w] := by
      rw [waitersOf_eq_length] at hcount
      obtain ⟨v, hv⟩ := List.length_eq_one_iff.mp hcount
      have hmem : w ∈ s.waiting w.port w.slot := List.mem_filter.mpr ⟨hw, by simp [Waiter.isOf]⟩
      rw [hv] at hmem ⊢
      rw [List.mem_singleton.mp hmem]
    obtain ⟨hnone, hticket⟩ := settled_takeTick (hkeeps.waits _ _ w hwaiting) hone
    refine ⟨_, ?_, fun x hx hof => ?_, hticket⟩
    · rw [step_nil hq, refPeriod_live hlive, dividerPeriod_ticks (by rwa [hkeeps.keeps.clock])]
    · have hno := List.filter_eq_nil_iff.mp hnone x hx
      simp [Waiter.isOf, hof.1, hof.2] at hno

end Sys2Proof.Machine
end

section
/-! Bits, bytes and the four frame tests (R165, R167, R172 to R175, R177). -/

namespace Sys2Proof.Machine

/-! ### Bits and bytes -/

/-- R165: fewer than eight bits make no byte. -/
theorem bytesOf_of_lt {bits : List Bool} (h : bits.length < 8) : bytesOf bits = [] := by
  unfold bytesOf
  split
  · simp only [List.length_cons] at h; omega
  · rfl

/-- R165: bits left over after whole bytes are dropped. -/
theorem bytesOf_bitsOf_append (frame : List Byte) {rest : List Bool} (h : rest.length < 8) :
    bytesOf (bitsOf frame ++ rest) = frame := by
  induction frame with
  | nil => exact bytesOf_of_lt h
  | cons b frame ih =>
    rw [bitsOf, List.flatMap_cons, List.append_assoc, bytesOf_byteBits, ← bitsOf, ih]

theorem partByte_bitsOf_append (frame : List Byte) {rest : List Bool} (h : rest.length < 8) :
    partByte (bitsOf frame ++ rest) = decide (rest ≠ []) := by
  have hmod : (bitsOf frame ++ rest).length % 8 = rest.length := by
    rw [List.length_append, bitsOf_length]; omega
  rw [partByte, hmod, bne, beq_eq_decide, ← decide_not]
  exact decide_eq_decide.mpr (by rw [List.length_eq_zero_iff])

/-- R165: the most significant bit of a byte comes first. -/
theorem getElem?_bitsOf_cons (b : Byte) (frame : List Byte) {k : Nat} (h : k < 8) :
    (bitsOf (b :: frame))[k]? = some (b.getLsbD (7 - k)) := by
  have hbits : bitsOf (b :: frame) = byteBits b ++ bitsOf frame := rfl
  rw [hbits, List.getElem?_append_left (by simpa [byteBits] using h)]
  interval_cases k <;> rfl

/-! ### Fields of more than one byte -/

/-- A field is its upper part followed by its lower part. -/
theorem extractLsb'_append_extractLsb' {w m n : Nat} (x : BitVec w) (h : m + n = w) :
    (x.extractLsb' n m ++ x.extractLsb' 0 n : BitVec (m + n)) = x.cast h.symm := by
  refine BitVec.eq_of_getLsbD_eq fun i hi => ?_
  rw [BitVec.getLsbD_append, BitVec.getLsbD_cast, BitVec.getLsbD_extractLsb', BitVec.getLsbD_extractLsb']
  by_cases hin : i < n
  · simp [hin]
  · simp [hin, show i - n < m by omega, show n + (i - n) = i by omega]

theorem join16_bytes (x : BitVec 16) : join16 (x.extractLsb' 8 8) (x.extractLsb' 0 8) = x :=
  extractLsb'_append_extractLsb' x rfl

/-- Two neighbouring parts of a field make one part. -/
theorem extractLsb'_append_middle {w m n k : Nat} (x : BitVec w) :
    (x.extractLsb' (k + n) m ++ x.extractLsb' k n : BitVec (m + n)) = x.extractLsb' k (m + n) := by
  refine BitVec.eq_of_getLsbD_eq fun i hi => ?_
  rw [BitVec.getLsbD_append, BitVec.getLsbD_extractLsb', BitVec.getLsbD_extractLsb', BitVec.getLsbD_extractLsb']
  by_cases hin : i < n
  · simp [hin, show i < m + n by omega]
  · simp [hin, hi, show i - n < m by omega, show k + n + (i - n) = k + i by omega]

theorem join24_bytes (x : BitVec 24) :
    join24 (x.extractLsb' 16 8) (x.extractLsb' 8 8) (x.extractLsb' 0 8) = x := by
  rw [join24, extractLsb'_append_middle (k := 8) (n := 8)]
  exact extractLsb'_append_extractLsb' x rfl

theorem join32_bytes (x : BitVec 32) :
    join32 (x.extractLsb' 24 8) (x.extractLsb' 16 8) (x.extractLsb' 8 8) (x.extractLsb' 0 8) = x := by
  rw [join32, extractLsb'_append_middle (k := 16) (n := 8), extractLsb'_append_middle (k := 8) (n := 8)]
  exact extractLsb'_append_extractLsb' x rfl

/-! ### Opcodes and arguments -/

theorem Opcode.ofByte_byte (o : Opcode) : Opcode.ofByte o.byte = some o := by cases o <;> rfl

/-- R175: a byte that codes an opcode is that opcode's byte. -/
theorem Opcode.byte_of_ofByte {b : Byte} {o : Opcode} (h : Opcode.ofByte b = some o) : b = o.byte := by
  unfold Opcode.ofByte at h
  split at h
  all_goals cases h
  all_goals exact BitVec.eq_of_toNat_eq (by assumption)

/-- R175: the bytes that the table lists no length for are those that code no opcode. -/
theorem Opcode.ofByte_eq_none_iff (b : Byte) : Opcode.ofByte b = none ↔ listedLengths b = [] := by
  constructor
  · intro h
    unfold listedLengths
    split
    all_goals first | rfl | simp_all [Opcode.ofByte]
  · intro h
    cases ho : Opcode.ofByte b with
    | none => rfl
    | some o =>
      obtain rfl := byte_of_ofByte ho
      cases o <;> cases h

/-- R175: an argument length that the table does not list makes no request. The opcodes are taken in groups of
one argument length. -/
theorem decodeArgs_eq_none {o : Opcode} {args : List Byte} (h : args.length ∉ listedLengths o.byte) :
    decodeArgs o args = none := by
  cases o
  case attention | faultRead | directoryClear =>
    rcases args with _ | _
    · exact absurd (List.Mem.head _) h
    · rfl
  case cancel | ticketRead | releaseTarget | targetStatus | setTimebase | portReset | directoryRead =>
    rcases args with _ | ⟨_, _ | _⟩
    all_goals first | rfl | exact absurd (List.Mem.head _) h
  case close | park | unpark | status | ackRevoke | setQuota | setPriority | revoke =>
    rcases args with _ | ⟨_, _ | ⟨_, _ | _⟩⟩
    all_goals first | rfl | exact absurd (List.Mem.head _) h
  case purge =>
    rcases args with _ | ⟨_, _ | ⟨_, _ | _⟩⟩
    all_goals first
      | rfl
      | exact absurd (List.Mem.head _) h
      | exact absurd (List.Mem.tail _ (List.Mem.head _)) h
  case renew =>
    rcases args with _ | ⟨_, _ | ⟨_, _ | ⟨_, _ | _⟩⟩⟩
    all_goals first | rfl | exact absurd (List.Mem.head _) h
  case setHold =>
    rcases args with _ | ⟨_, _ | ⟨_, _ | ⟨_, _ | ⟨_, _ | _⟩⟩⟩⟩
    all_goals first | rfl | exact absurd (List.Mem.head _) h
  case reshape =>
    rcases args with _ | ⟨_, _ | ⟨_, _ | ⟨_, _ | ⟨_, _ | ⟨_, _ | ⟨_, _ | ⟨_, _ | _⟩⟩⟩⟩⟩⟩⟩
    all_goals first | rfl | exact absurd (List.Mem.head _) h
  case openLease =>
    rcases args with _ | ⟨_, _ | ⟨_, _ | ⟨_, _ | ⟨_, _ | ⟨_, _ | ⟨_, _ | ⟨_, _ | ⟨_, _ | _⟩⟩⟩⟩⟩⟩⟩⟩
    all_goals first | rfl | exact absurd (List.Mem.head _) h
  case configureTarget =>
    rcases args with _ | ⟨_, _ | ⟨_, _ | ⟨_, _ | ⟨_, _ | ⟨_, _ | ⟨_, _ | ⟨_, _ | ⟨_, _ | ⟨_, _ | ⟨_, _ |
      ⟨_, _ | ⟨_, _ | ⟨_, _ | ⟨_, _ | ⟨_, _ | ⟨_, _ | ⟨_, _ | ⟨_, _ | _⟩⟩⟩⟩⟩⟩⟩⟩⟩⟩⟩⟩⟩⟩⟩⟩⟩⟩
    all_goals first | rfl | exact absurd (List.Mem.head _) h

/-- R173 to R175: a request is read back from its argument bytes. -/
theorem decodeArgs_argBytes (r : Request) : decodeArgs r.opcode r.argBytes = some r := by
  cases r
  case openLease base count cls wait limit =>
    refine Eq.trans (b := some (.openLease (join16 _ _) (join16 _ _) _ _ (join16 _ _))) rfl ?_
    rw [join16_bytes, join16_bytes, join16_bytes]
  case reshape h base count cls =>
    refine Eq.trans (b := some (.reshape _ (join16 _ _) (join16 _ _) _)) rfl ?_
    rw [join16_bytes, join16_bytes]
  case setHold p hold grace =>
    refine Eq.trans (b := some (.setHold _ (join16 _ _) _)) rfl ?_
    rw [join16_bytes]
  case configureTarget a =>
    refine Eq.trans (b := some (.configureTarget ⟨_, join16 _ _, join16 _ _, _, join16 _ _, join16 _ _, _,
      join24 _ _ _, join32 _ _ _ _⟩)) rfl ?_
    rw [join16_bytes, join16_bytes, join16_bytes, join16_bytes, join24_bytes, join32_bytes]
  all_goals rfl

theorem toNat_byteOf_argBytes (r : Request) : (byteOf r.argBytes.length).toNat = r.argBytes.length := by
  cases r <;> rfl

/-! ### The frame tests -/

section
variable {p : Port} {part : Bool} {op tag len : Byte} {args : List Byte}

theorem decodeFrame_of_short {frame : List Byte} (h : frame.length < 3) :
    decodeFrame p part frame = .error .badFrame := by
  unfold decodeFrame
  split
  · simp only [List.length_cons] at h; omega
  · rfl

theorem decodeFrame_of_length (h : part = true ∨ args.length ≠ len.toNat) :
    decodeFrame p part (op :: tag :: len :: args) = .error .badFrame :=
  if_pos (by simpa using h)

theorem decodeFrame_of_noOpcode (hlen : args.length = len.toNat) (h : Opcode.ofByte op = none) :
    decodeFrame p false (op :: tag :: len :: args) = .error .badCommand := by
  rw [decodeFrame, if_neg (by simp [hlen]), h]

theorem decodeFrame_of_notPermitted {o : Opcode} (hlen : args.length = len.toNat)
    (h : Opcode.ofByte op = some o) (hsup : o.supervisor = true) (hp : p ≠ supervisorPort) :
    decodeFrame p false (op :: tag :: len :: args) = .error .notPermitted := by
  rw [decodeFrame, if_neg (by simp [hlen]), h]
  exact if_pos (by simp [hsup, hp])

theorem decodeFrame_of_noRequest {o : Opcode} (hlen : args.length = len.toNat)
    (h : Opcode.ofByte op = some o) (hp : o.supervisor = true → p = supervisorPort)
    (hargs : decodeArgs o args = none) :
    decodeFrame p false (op :: tag :: len :: args) = .error .badArgument := by
  rw [decodeFrame, if_neg (by simp [hlen]), h]
  dsimp only
  rw [if_neg (by simpa using hp), hargs]

theorem decodeFrame_of_request {o : Opcode} {r : Request} (hlen : args.length = len.toNat)
    (h : Opcode.ofByte op = some o) (hp : o.supervisor = true → p = supervisorPort)
    (hargs : decodeArgs o args = some r) :
    decodeFrame p false (op :: tag :: len :: args) = .ok r := by
  rw [decodeFrame, if_neg (by simp [hlen]), h]
  dsimp only
  rw [if_neg (by simpa using hp), hargs]

end

/-- R167: the frame of a request that its port may send passes every test. -/
theorem decodeFrame_encode {p : Port} {r : Request} (h : SentBy p r) (tag : Byte) :
    decodeFrame p false (encodeRequest tag r) = .ok r :=
  decodeFrame_of_request (toNat_byteOf_argBytes r).symm (Opcode.ofByte_byte r.opcode) h (decodeArgs_argBytes r)

/-- Settles O16: the bits of a frame, and its request, are read back. -/
theorem framesReadBackTheirRequest : Obligations.FramesReadBackTheirRequest :=
  ⟨fun frame _ h => ⟨bytesOf_bitsOf_append frame h, partByte_bitsOf_append frame h,
      fun b _ hk => getElem?_bitsOf_cons b frame hk⟩,
    fun _ tag _ h => ⟨decodeFrame_encode h tag, rfl⟩⟩

/-! ### A frame on an IDLE link -/

/-- The port link unit of `p` becomes `u`, and nothing else changes. -/
def LinkBecomes (p : Port) (u : LinkUnit) (s t : State) : Prop :=
  t.link p = u ∧ LinksBut p s t ∧ KeepsAllBut [.links] s t

theorem linkBecomes_setLink (p : Port) (u : LinkUnit) (s : State) : LinkBecomes p u s (s.setLink p u) :=
  ⟨link_setLink_self s p u, fun _ hq => link_setLink_of_ne s u hq, keeps_setLink s p u⟩

theorem setLink_setLink (s : State) (p : Port) (u v : LinkUnit) :
    (s.setLink p u).setLink p v = s.setLink p v := by
  simp [State.setLink]

/-- R165: the transfer of port `p` has ended, with LDOn high all along. -/
def LinkUnit.transferred (u : LinkUnit) (n : Nat) : LinkUnit :=
  { u with transfer := .idle, driven := List.replicate n true }

theorem endTransfer_idleBits (p : Port) (n : Nat) (s : State) :
    endTransfer p (idleBits n) s = s.setLink p ((s.link p).transferred n) := rfl

/-- R165: a request transfer is one that begins with a byte other than 00H, or with no whole byte. -/
theorem exec_requestTransfer {s : State} {p : Port} {bits first rest : List Bool} (hlive : s.resetLow = false)
    (hhead : (bytesOf bits).head? ≠ some 0x00) (hbits : first ++ rest = bits) :
    exec (.requestTransfer p first rest) s = .next (endRequestTransfer p bits s) := by
  subst hbits
  have hexec : exec (.requestTransfer p first rest) s = execRequestTransfer p first rest s := rfl
  rw [hexec, execRequestTransfer, if_pos (by simpa [frameIsRequest] using hhead), whenLive_live hlive]

/-- R165, R167: the port takes a request frame: its transfer has still to begin, with PRSTn high, or its
first byte has been clocked. -/
def LinkUnit.Takes (u : LinkUnit) (frame : List Byte) : Prop :=
  (u.transfer = .idle ∧ u.prstLow = false) ∨ ∃ b, u.transfer = .request b ∧ frame.head? = some b

theorem endRequestTransfer_takes {s : State} {p : Port} {bits : List Bool} (hne : bytesOf bits ≠ [])
    (h : (s.link p).Takes (bytesOf bits)) : endRequestTransfer p bits s = takeRequest p bits s := by
  unfold endRequestTransfer
  dsimp only
  rcases h with ⟨hidle, hprst⟩ | ⟨b, hreq, hhead⟩
  · rw [hidle]
    dsimp only
    rw [if_neg hne, if_neg (by simp [hprst])]
  · rw [hreq]
    dsimp only
    rw [if_pos hhead]

/-- R167: a frame on an IDLE link. -/
theorem takeRequest_idle {s : State} {p : Port} {bits : List Bool} (h : (s.link p).link = .idle) :
    takeRequest p bits s = takeFrame p (bytesOf bits) (partByte bits)
      (s.setLink p ((s.link p).transferred bits.length)) := by
  rw [takeRequest, h, endTransfer_idleBits]

/-- R167: a frame that fails a test is answered with its refusal. -/
theorem takeFrame_refused {s : State} {p : Port} {frame : List Byte} {part : Bool} {st : Status}
    (h : decodeFrame p part frame = .error st) (u : LinkUnit) :
    takeFrame p frame part (s.setLink p u) = s.setLink p { u with
      link := .responseReady { tag := frameTag frame, status := st, results := [] } } := by
  rw [takeFrame, h]
  dsimp only
  rw [setLink_setLink, link_setLink_self]

theorem frameTag_eq (frame : List Byte) : frameTag frame = (frame[1]?).getD 0x00 := by
  rcases frame with _ | ⟨_, _ | _⟩ <;> rfl

/-- R167: an IDLE link refuses a frame with this status. -/
def RefusesFrame (s : State) (p : Port) (bits : List Bool) (st : Status) : Prop :=
  ∃ t, (∀ first rest, first ++ rest = bits → exec (.requestTransfer p first rest) s = .next t) ∧
    LinkBecomes p { s.link p with
      transfer := .idle
      link := .responseReady { tag := ((bytesOf bits)[1]?).getD 0x00, status := st, results := [] }
      driven := List.replicate bits.length true } s t

theorem refusesFrame_of_decode {s : State} {p : Port} {bits : List Bool} {b : Byte} {st : Status}
    (hhead : (bytesOf bits).head? = some b) (hb : b ≠ 0x00) (htakes : LinkTakes s p b)
    (h : decodeFrame p (partByte bits) (bytesOf bits) = .error st) : RefusesFrame s p bits st := by
  obtain ⟨hlive, hidle, htransfer⟩ := htakes
  have hne : bytesOf bits ≠ [] := by rintro hnil; simp [hnil] at hhead
  have hstep : endRequestTransfer p bits s = s.setLink p { (s.link p).transferred bits.length with
      link := .responseReady { tag := frameTag (bytesOf bits), status := st, results := [] } } := by
    rw [endRequestTransfer_takes hne (htransfer.imp_right fun hr => ⟨b, hr, hhead⟩), takeRequest_idle hidle,
      takeFrame_refused h]
  refine ⟨_, fun first rest hbits => ?_, linkBecomes_setLink p _ s⟩
  rw [exec_requestTransfer hlive (by simpa [hhead] using hb) hbits, hstep, frameTag_eq]
  rfl

/-- R175: a supervisor command's opcode is 20H or above. -/
theorem supervisor_of_ofByte {op : Byte} {o : Opcode} (h : Opcode.ofByte op = some o) :
    o.supervisor = true ↔ 0x20 ≤ op.toNat := by
  rw [Opcode.byte_of_ofByte h, Opcode.supervisor, decide_eq_true_iff]

/-- Settles O17: the tests of a frame are made in their order. -/
theorem frameTestsRefuseInOrder : Obligations.FrameTestsRefuseInOrder := by
  intro s p bits b hhead hb htakes
  have hrefuses : ∀ st, decodeFrame p (partByte bits) (bytesOf bits) = .error st → RefusesFrame s p bits st :=
    fun st => refusesFrame_of_decode hhead hb htakes
  refine ⟨fun hshort => hrefuses _ (decodeFrame_of_short hshort), fun op tag len args hframe => ?_⟩
  have hdecode : ∀ st, decodeFrame p (partByte bits) (op :: tag :: len :: args) = .error st →
      RefusesFrame s p bits st := fun st h => hrefuses st (hframe ▸ h)
  refine ⟨fun h => hdecode _ (decodeFrame_of_length (h.imp_left fun hm => by simpa [partByte] using hm)),
    fun hwhole hlen => ?_⟩
  have hpart : partByte bits = false := by simp [partByte, hwhole]
  rw [hpart] at hdecode
  have hopcode : listedLengths op ≠ [] → ∃ o, Opcode.ofByte op = some o := fun h =>
    Option.ne_none_iff_exists'.mp fun hno => h ((Opcode.ofByte_eq_none_iff op).mp hno)
  refine ⟨fun h => hdecode _ (decodeFrame_of_noOpcode hlen ((Opcode.ofByte_eq_none_iff op).mpr h)),
    fun h hsup hp => ?_, fun h hp hargs => ?_⟩
  · obtain ⟨o, ho⟩ := hopcode h
    exact hdecode _ (decodeFrame_of_notPermitted hlen ho ((supervisor_of_ofByte ho).mpr hsup) hp)
  · obtain ⟨o, ho⟩ := hopcode h
    refine hdecode _ (decodeFrame_of_noRequest hlen ho (fun hsup => ?_) (decodeArgs_eq_none ?_))
    · have hge := (supervisor_of_ofByte ho).mp hsup
      exact hp.resolve_left (by omega)
    · rwa [← Opcode.byte_of_ofByte ho]

end Sys2Proof.Machine
end

section
/-! Request transfers, ATTENTION and FAULT_READ (R129, R167, R168, R178, R180). -/

namespace Sys2Proof.Machine

/-! ### The end of a request transfer -/

section
variable {s : State} {p : Port} {bits : List Bool}

/-- R168: a link that is not IDLE discards a frame. -/
theorem takeRequest_overrun (h : (s.link p).link ≠ .idle) : takeRequest p bits s =
    s.setLink p { (s.link p).transferred bits.length with overrun := true } := by
  unfold takeRequest
  dsimp only
  split
  · next hidle => exact absurd hidle h
  · rw [endTransfer_idleBits, setLink_setLink, link_setLink_self]

/-- R168: a transfer that is ignored ends without a frame. -/
theorem endRequestTransfer_ignored (h : (s.link p).transfer = .ignored) :
    endRequestTransfer p bits s = s.setLink p ((s.link p).transferred bits.length) := by
  rw [endRequestTransfer, h]
  rfl

theorem endRequestTransfer_prstLow (h : (s.link p).transfer = .idle) (hprst : (s.link p).prstLow = true)
    (hne : bytesOf bits ≠ []) :
    endRequestTransfer p bits s = s.setLink p ((s.link p).transferred bits.length) := by
  unfold endRequestTransfer
  dsimp only
  rw [h]
  dsimp only
  rw [if_neg hne, if_pos hprst]
  rfl

/-- R165: a transfer with no whole byte changes nothing. -/
theorem endRequestTransfer_noByte (h : (s.link p).transfer = .idle) (hnil : bytesOf bits = []) :
    endRequestTransfer p bits s = s := by
  unfold endRequestTransfer
  dsimp only
  rw [h]
  dsimp only
  rw [if_pos hnil]

/-- R167: a frame that passes, on an IDLE link, is the command in hand. -/
theorem takeFrame_command {frame : List Byte} {part : Bool} {r : Request}
    (h : decodeFrame p part frame = .ok r) (ha : r ≠ .attention) (hf : r ≠ .faultRead) (u : LinkUnit) :
    takeFrame p frame part (s.setLink p u) = s.setLink p { u with
      link := .command { tag := frameTag frame, request := r, closing := none } } := by
  unfold takeFrame
  rw [h]
  split
  · next heq => cases heq
  · next heq => exact absurd (Except.ok.inj heq) ha
  · next heq => exact absurd (Except.ok.inj heq) hf
  · next heq =>
    obtain rfl := Except.ok.inj heq
    rw [setLink_setLink, link_setLink_self]

end

theorem bytesOf_encode (tag : Byte) (r : Request) :
    bytesOf (bitsOf (encodeRequest tag r)) = encodeRequest tag r := bytesOf_bitsOf _

theorem head?_encode_ne (tag : Byte) (r : Request) : (encodeRequest tag r).head? ≠ some 0x00 := by
  simpa [frameIsRequest] using frameIsRequest_encode tag r

/-- Settles O18: a request transfer is taken, discarded or ignored. -/
theorem requestTransferIsTakenOrDiscarded : Obligations.RequestTransferIsTakenOrDiscarded := by
  intro s p hlive answers ends takes
  have hanswers : ∀ {bits}, (bytesOf bits).head? ≠ some 0x00 →
      answers bits (.next (endRequestTransfer p bits s)) := fun hhead first rest hbits =>
    exec_requestTransfer hlive hhead hbits
  have hends : ∀ {bits : List Bool} {u : LinkUnit}, (bytesOf bits).head? ≠ some 0x00 →
      endRequestTransfer p bits s = s.setLink p (u.transferred bits.length) → ends bits u := fun hhead hstep =>
    ⟨_, hstep ▸ hanswers hhead, linkBecomes_setLink p _ s⟩
  refine ⟨fun tag r hsent htakes hidle ha hf => ?_, fun bits hne hhead => ⟨fun htakes hbusy => ?_,
    fun htransfer hprst => hends hhead (endRequestTransfer_prstLow htransfer hprst hne)⟩,
    fun bits hhead htransfer => hends hhead (endRequestTransfer_ignored htransfer),
    fun bits hlt htransfer => ?_, fun tag => ⟨?_, ?_⟩⟩
  · have hbytes := bytesOf_encode tag r
    refine hends (by rw [hbytes]; exact head?_encode_ne tag r) ?_
    rw [endRequestTransfer_takes (by rw [hbytes]; exact nofun) (by rw [hbytes]; exact htakes),
      takeRequest_idle hidle, hbytes, partByte_bitsOf, takeFrame_command (decodeFrame_encode hsent tag) ha hf]
    rfl
  · refine hends hhead ?_
    rw [endRequestTransfer_takes hne htakes, takeRequest_overrun hbusy]
    rfl
  · have hnil := bytesOf_of_lt hlt
    have hstep := hanswers (bits := bits) (by rw [hnil]; exact nofun)
    rwa [endRequestTransfer_noByte htransfer hnil] at hstep
  · have hexec : exec (.attention p tag) s =
        .next (endRequestTransfer p (bitsOf (encodeRequest tag .attention)) s) := whenLive_live hlive _
    rw [hexec]
    exact hanswers (by rw [bytesOf_encode]; exact head?_encode_ne tag _)
  · have hexec : exec (.faultRead p tag) s =
        .next (endRequestTransfer p (bitsOf (encodeRequest tag .faultRead)) s) := whenLive_live hlive _
    rw [hexec]
    exact hanswers (by rw [bytesOf_encode]; exact head?_encode_ne tag _)

end Sys2Proof.Machine
end

section
/-! ATTENTION, FAULT_READ and the attention sources (R25, R94, R128, R129, R178, R180). -/

namespace Sys2Proof.Machine

/-! ### The unit's own commands -/

/-- R180: the record depends on the port's tickets, fault and overrun, not on its transfer. -/
theorem attentionRecord_setLink {s : State} {p : Port} {u : LinkUnit} (ht : u.tickets = (s.link p).tickets)
    (hf : u.fault = (s.link p).fault) (ho : u.overrun = (s.link p).overrun) :
    attentionRecord (s.setLink p u) p = attentionRecord s p := by
  unfold attentionRecord
  rw [State.ticket, State.ticket, link_setLink_self, ht, hf, ho]
  rfl

section
variable {s : State} {p : Port}

/-- R167: the frame of a request that is taken on an IDLE link. -/
theorem endRequestTransfer_encode {tag : Byte} {r : Request} (htakes : LinkTakes s p r.opcode.byte) :
    endRequestTransfer p (bitsOf (encodeRequest tag r)) s =
      takeFrame p (encodeRequest tag r) false
        (s.setLink p ((s.link p).transferred (8 * (encodeRequest tag r).length))) := by
  obtain ⟨-, hidle, htransfer⟩ := htakes
  have hbytes := bytesOf_encode tag r
  rw [endRequestTransfer_takes (by rw [hbytes]; exact nofun)
    (by rw [hbytes]; exact htransfer.imp_right fun hr => ⟨_, hr, rfl⟩), takeRequest_idle hidle, hbytes,
    partByte_bitsOf, bitsOf_length]

/-- R180: ATTENTION is answered in the step that takes its frame. -/
theorem exec_attention {tag : Byte} (htakes : LinkTakes s p 0x0B) : exec (.attention p tag) s =
    .next (s.setLink p { s.link p with
      transfer := .idle
      link := .responseReady { tag := tag, status := .ok, results := attentionRecord s p }
      overrun := false
      driven := List.replicate 24 true }) := by
  have hexec : exec (.attention p tag) s =
      .next (endRequestTransfer p (bitsOf (encodeRequest tag .attention)) s) := whenLive_live htakes.1 _
  have hdecode : decodeFrame p false (encodeRequest tag .attention) = .ok .attention :=
    decodeFrame_encode (by intro h; cases h) tag
  rw [hexec, endRequestTransfer_encode htakes, takeFrame, hdecode]
  dsimp only
  rw [answerAttention, link_setLink_self, setLink_setLink,
    attentionRecord_setLink (u := (s.link p).transferred _) rfl rfl rfl]
  rfl

/-- R129: FAULT_READ is answered in the step that takes its frame. -/
theorem exec_faultRead {tag : Byte} (htakes : LinkTakes s p 0x0C) : exec (.faultRead p tag) s =
    .next (s.setLink p { s.link p with
      transfer := .idle
      link := .responseReady { tag := tag, status := .ok, results := faultBytes (s.link p).fault }
      fault := { fault := none, further := false }
      driven := List.replicate 24 true }) := by
  have hexec : exec (.faultRead p tag) s =
      .next (endRequestTransfer p (bitsOf (encodeRequest tag .faultRead)) s) := whenLive_live htakes.1 _
  have hdecode : decodeFrame p false (encodeRequest tag .faultRead) = .ok .faultRead :=
    decodeFrame_encode (by intro h; cases h) tag
  rw [hexec, endRequestTransfer_encode htakes, takeFrame, hdecode]
  dsimp only
  rw [answerFaultRead, link_setLink_self, setLink_setLink]
  rfl

end

theorem length_faultBytes (r : FaultRecord) : (faultBytes r).length = 10 := by
  obtain ⟨_ | ⟨reason, _ | ⟨a, _ | _⟩, _ | h, _ | t⟩, further⟩ := r <;> rfl

/-! ### The attention sources -/

theorem tyd_eq_true_iff {s : State} {p : Port} : s.tyd p = true ↔ s.requester p = .yielding := by
  unfold State.tyd
  cases s.requester p <;> simp

theorem rdy_eq_true_iff {s : State} {p : Port} : s.rdy p = true ↔ ∃ r, (s.link p).link = .responseReady r := by
  unfold State.rdy
  cases (s.link p).link <;> simp

theorem Ticket.attends_iff {x : Ticket} :
    x.attends = true ↔ (∃ h, x = .granted h) ∨ ∃ r, x = .refused r := by
  cases x <;> simp [Ticket.attends]

/-- R15: the entries whose marks set is not empty. -/
theorem marked_iff {s : State} {p : Port} {i : EntryIx} : s.marked p i = true ↔
    ∃ l, s.lease i = some l ∧ l.holder = p ∧
      (l.marks.expiryNear = true ∨ l.marks.revoked = true ∨ l.marks.writeLost = true) := by
  simp [State.marked, Option.any_eq_true, Marks.any, or_assoc]

/-- R178: the five sources of ATTNn. -/
theorem attn_eq_true_iff {s : State} {p : Port} : s.attn p = true ↔
    (s.link p).fault.fault ≠ none ∨
      (∃ k, (∃ h, s.ticket p k = .granted h) ∨ ∃ r, s.ticket p k = .refused r) ∨
      (∃ i, s.marked p i = true) ∨ s.tyd p = true ∨ (s.link p).overrun = true := by
  have hslots : (∃ k, (s.ticket p k).attends = true) ↔
      (s.ticket p 0).attends = true ∨ (s.ticket p 1).attends = true := by
    simp [Fin.exists_fin_two]
  have hmarked : allEntries.any (s.marked p) = true ↔ ∃ i, s.marked p i = true := by
    simp [List.any_eq_true, mem_allEntries]
  simp only [← Ticket.attends_iff, hslots, ← hmarked, State.attn, Bool.or_eq_true, or_assoc,
    Option.isSome_iff_ne_none]

/-- R180: the fields of ATTENTION's record. -/
theorem attentionRecord_fields (s : State) (p : Port) :
    (attentionRecord s p).take 5 =
      [(s.ticket p 0).code, (s.ticket p 1).code,
        if (s.link p).fault.fault = none then 0x00 else 0x01,
        if s.requester p = .yielding then 0x01 else 0x00,
        if (s.link p).overrun = true then 0x01 else 0x00] ∧
    (attentionRecord s p)[5]? = some (byteOf (allEntries.countP fun i => s.marked p i)) ∧
    ((∀ i, s.marked p i = false) → (attentionRecord s p).drop 6 = [0xFF, 0x00]) ∧
    ∀ i, s.marked p i = true → (∀ j, j < i → s.marked p j = false) →
      (attentionRecord s p).drop 6 = [byteOf i, (s.entry i).generation] := by
  refine ⟨?_, rfl, fun hnone => ?_, fun i hi hlow => ?_⟩
  · have hfault : flagByte (s.link p).fault.fault.isSome =
        if (s.link p).fault.fault = none then 0x00 else 0x01 := by
      cases (s.link p).fault.fault <;> rfl
    have htyd : flagByte (s.tyd p) = if s.requester p = .yielding then 0x01 else 0x00 := by
      simp only [flagByte, tyd_eq_true_iff]
    rw [← hfault, ← htyd]
    rfl
  · have hfind : allEntries.find? (s.marked p) = none := List.find?_eq_none.mpr fun i _ => by simp [hnone i]
    simp [attentionRecord, hfind]
  · have hfind : allEntries.find? (s.marked p) = some i :=
      find?_eq_lowest (by decide) (mem_allEntries i) hi hlow
    simp [attentionRecord, hfind]

/-- Settles O19: ATTENTION and FAULT_READ answer in the step of their frame, and the lines say what stands. -/
theorem attentionAndFaultReadAnswer : Obligations.AttentionAndFaultReadAnswer := by
  refine ⟨fun s p tag htakes => ⟨_, exec_attention htakes, linkBecomes_setLink p _ s⟩,
    fun s p tag bytes htakes => ?_, attentionRecord_fields,
    fun s p => ⟨attn_eq_true_iff, fun i => marked_iff, rdy_eq_true_iff, tgr_eq_true_iff, tyd_eq_true_iff⟩,
    fun _ _ => rfl, rfl⟩
  intro record further hnone hsome
  have hbytes : bytes = faultBytes record := by
    unfold faultBytes
    cases hf : record.fault with
    | none => exact hnone hf
    | some f =>
      rw [hsome f hf]
      obtain ⟨reason, _ | ⟨a, _ | _⟩, _ | h, _ | t⟩ := f <;> rfl
  subst hbytes
  exact ⟨length_faultBytes record, _, exec_faultRead htakes, linkBecomes_setLink p _ s⟩

end Sys2Proof.Machine
end

section
/-! Read transfers and the level of LDOn (R165, R168, R169, R172, R176). -/

namespace Sys2Proof.Machine

/-! ### The levels of LDOn -/

/-- R165: the bits of a frame, with LDOn high after them. -/
theorem map_range_getD (bits : List Bool) (n : Nat) :
    ((List.range n).map fun m => (bits[m]?).getD true) = (bits ++ List.replicate n true).take n := by
  refine List.ext_getElem (by simp) fun m hm _ => ?_
  have hmn : m < n := by simpa using hm
  rw [List.getElem_map, List.getElem_range, List.getElem_take, List.getElem_append]
  split
  · next h => rw [List.getElem?_eq_getElem h, Option.getD_some]
  · next h => rw [List.getElem?_eq_none (by omega), List.getElem_replicate, Option.getD_none]

theorem drivenBits_whole (chosen : Option Response) (n k : Nat) : drivenBits chosen false n k =
    List.replicate 8 true ++ (bitsOf (chosenBytes chosen) ++ List.replicate n true).take n := by
  rw [← map_range_getD, drivenBits]
  simp only [Bool.false_eq_true, false_and, if_false]
  rfl

/-- R169: the bits before the cut are those of the frame. -/
theorem drivenBits_cut (chosen : Option Response) (n k : Nat) : drivenBits chosen true n k =
    List.replicate 8 true ++ ((bitsOf (chosenBytes chosen)).take k ++ List.replicate n true).take n := by
  have hlevel : ∀ m, (if true = true ∧ k ≤ m then Config.idleLevel else ldoBit chosen m) =
      (((bitsOf (chosenBytes chosen)).take k)[m]?).getD true := fun m => by
    by_cases h : k ≤ m
    · rw [if_pos ⟨rfl, h⟩, List.getElem?_take, if_neg (not_lt.mpr h)]; rfl
    · rw [if_neg (by simp [h]), List.getElem?_take, if_pos (not_le.mp h)]; rfl
  rw [← map_range_getD, drivenBits]
  exact congrArg _ (List.map_congr_left fun m _ => hlevel m)

theorem bitsOf_emptyFrame : bitsOf (chosenBytes none) = List.replicate 24 false := by decide

section
variable {s : State} {p : Port}

theorem ldo_read {chosen : Option Response} (hlive : s.resetLow = false)
    (h : (s.link p).transfer = .read chosen false) (n : Nat) : s.ldo p n = ldoBit chosen n := by
  rw [State.ldo, if_neg (by simp [hlive]), h]

/-- R165, R168: outside a read transfer, and in one that is cut, LDOn is high. -/
theorem ldo_high (hlive : s.resetLow = false) (h : ∀ r, (s.link p).transfer ≠ .read r false) (n : Nat) :
    s.ldo p n = true := by
  rw [State.ldo, if_neg (by simp [hlive])]
  split
  · next hr => exact absurd hr (h _)
  · rfl

theorem ldoBit_none (n : Nat) : ldoBit none n = decide (24 ≤ n) := by
  rw [ldoBit, bitsOf_emptyFrame]
  by_cases h : 24 ≤ n
  · rw [List.getElem?_eq_none (by simpa using h), Option.getD_none, decide_eq_true h]; rfl
  · rw [List.getElem?_eq_getElem (by simpa using h), List.getElem_replicate, Option.getD_some,
      decide_eq_false h]

/-! ### The first byte of a transfer -/

/-- R165, R168, R169: the first byte of a transfer chooses its kind. -/
theorem exec_firstByte (hlive : s.resetLow = false) (h : (s.link p).transfer = .idle) (b : Byte) :
    exec (.firstByteClocked p b) s = .next (s.setLink p { s.link p with
      transfer := if (s.link p).prstLow then .ignored
        else if b = 0x00 then .read (s.link p).link.chosen false else .request b }) := by
  have hexec : exec (.firstByteClocked p b) s = .next (takeFirstByte p b s) := whenLive_live hlive _
  rw [hexec, takeFirstByte, h]

theorem exec_firstByte_busy (hlive : s.resetLow = false) (h : (s.link p).transfer ≠ .idle) (b : Byte) :
    exec (.firstByteClocked p b) s = .next s := by
  have hexec : exec (.firstByteClocked p b) s = .next (takeFirstByte p b s) := whenLive_live hlive _
  rw [hexec]
  unfold takeFirstByte
  dsimp only
  split
  · next hidle => exact absurd hidle h
  · rfl

theorem LinkState.chosen_eq_none {k : LinkState} (h : ∀ r, k ≠ .responseReady r) : k.chosen = none := by
  unfold chosen
  split
  · next r => exact absurd rfl (h r)
  · rfl

/-! ### The end of a read transfer -/

theorem exec_readTransfer (hlive : s.resetLow = false) {n k : Nat} (hk : k ≤ n) :
    exec (.readTransfer p n k) s = .next (endReadTransfer p n k s) := by
  have hexec : exec (.readTransfer p n k) s = execReadTransfer p n k s := rfl
  rw [hexec, execReadTransfer, if_pos hk, whenLive_live hlive]

/-- R169: the read transfer of this unit has ended. -/
def LinkUnit.readEnded (u : LinkUnit) (chosen : Option Response) (cut : Bool) (n k : Nat) : LinkUnit :=
  { u with transfer := .idle, driven := drivenBits chosen cut n k, link := u.link.afterRead chosen cut n }

theorem takeReadEnd_eq (chosen : Option Response) (cut : Bool) (n k : Nat) :
    takeReadEnd p chosen cut n k s = s.setLink p ((s.link p).readEnded chosen cut n k) := by
  rw [takeReadEnd, endTransfer]
  dsimp only
  rw [setLink_setLink, link_setLink_self]
  rfl

theorem endReadTransfer_read {chosen : Option Response} {cut : Bool}
    (h : (s.link p).transfer = .read chosen cut) (n k : Nat) :
    endReadTransfer p n k s = s.setLink p ((s.link p).readEnded chosen cut n k) := by
  rw [endReadTransfer, h]
  exact takeReadEnd_eq chosen cut n k

theorem endReadTransfer_idle (h : (s.link p).transfer = .idle) (hprst : (s.link p).prstLow = false)
    (n k : Nat) : endReadTransfer p n k s =
      s.setLink p ((s.link p).readEnded (s.link p).link.chosen false n k) := by
  rw [endReadTransfer, h]
  dsimp only
  rw [if_neg (by simp [hprst])]
  exact takeReadEnd_eq _ _ n k

/-- R168: an ignored transfer ends with nothing read. -/
theorem endReadTransfer_ignored (h : (s.link p).transfer = .ignored ∨
      ((s.link p).transfer = .idle ∧ (s.link p).prstLow = true)) (n k : Nat) :
    endReadTransfer p n k s = s.setLink p ((s.link p).transferred (8 + n)) := by
  unfold endReadTransfer
  dsimp only
  rcases h with hig | ⟨hidle, hprst⟩
  · rw [hig]
    rfl
  · rw [hidle]
    dsimp only
    rw [if_pos hprst]
    rfl

end

theorem LinkState.afterRead_none (k : LinkState) (cut : Bool) (n : Nat) : k.afterRead none cut n = k := by
  cases k <;> rfl

theorem LinkState.afterRead_cut (k : LinkState) (chosen : Option Response) (n : Nat) :
    k.afterRead chosen true n = k := by
  cases k <;> cases chosen <;> simp [afterRead]

/-- R169: a response is consumed when the transfer has clocked out its last byte. -/
theorem LinkState.afterRead_whole (r : Response) (n : Nat) :
    (LinkState.responseReady r).afterRead (some r) false n =
      if 8 * (3 + r.results.length) ≤ n then .idle else .responseReady r := by
  have hlen : r.bytes.length = 3 + r.results.length := by
    rw [Response.bytes, List.length_append]; rfl
  have hiff : r.bytes.length ≤ n / 8 ↔ 8 * (3 + r.results.length) ≤ n := by rw [hlen]; omega
  simp only [afterRead, hiff, true_and]

/-- Settles O20: the first byte chooses what a read transfer drives, and its end consumes what was read. -/
theorem readTransferDrivesAndConsumes : Obligations.ReadTransferDrivesAndConsumes := by
  refine ⟨fun _ => rfl, rfl, fun s p hlive => ?_⟩
  intro becomes
  have hbecomes : ∀ {c : Instr} {u : LinkUnit}, exec c s = .next (s.setLink p u) → becomes c u :=
    fun hexec => ⟨_, hexec, linkBecomes_setLink p _ s⟩
  have hfirst := fun hidle b => exec_firstByte (s := s) (p := p) hlive hidle b
  refine ⟨fun hidle hprst => ⟨fun r hr => hbecomes ?_, fun hr => hbecomes ?_, fun b hb => hbecomes ?_⟩,
    fun hidle hprst b => hbecomes ?_, fun hbusy b => exec_firstByte_busy hlive hbusy b,
    fun n => ⟨fun r hr => ldo_read hlive hr n, fun hr => (ldo_read hlive hr n).trans (ldoBit_none n),
      fun hno => ldo_high hlive hno n⟩,
    fun n k hk => ?_⟩
  · rw [hfirst hidle, hprst, hr]; rfl
  · rw [hfirst hidle, hprst, LinkState.chosen_eq_none hr]; rfl
  · rw [hfirst hidle, hprst, if_neg (by decide), if_neg hb]
  · rw [hfirst hidle, if_pos hprst]
  · have hread := exec_readTransfer (s := s) (p := p) hlive hk
    refine ⟨fun r hr hlink => hbecomes ?_, fun hidle hprst => ?_, fun h => hbecomes ?_, fun hr => hbecomes ?_,
      fun hr => hbecomes ?_, fun r hr => hbecomes ?_⟩
    · rw [hread, endReadTransfer_read hr, LinkUnit.readEnded, drivenBits_whole, hlink,
        LinkState.afterRead_whole]
      rfl
    · refine ⟨_, hfirst hidle 0x00, ?_⟩
      rw [hprst, hread, endReadTransfer_idle hidle hprst,
        exec_readTransfer (s := s.setLink p _) hlive hk,
        endReadTransfer_read (s := s.setLink p _) (by rw [link_setLink_self]; rfl), setLink_setLink,
        link_setLink_self]
      rfl
    · rw [hread, endReadTransfer_ignored h]
      rfl
    · rw [hread, endReadTransfer_read hr, LinkUnit.readEnded, drivenBits_whole, LinkState.afterRead_none,
        bitsOf_emptyFrame]
    · rw [hread, endReadTransfer_read hr, LinkUnit.readEnded, drivenBits_cut, LinkState.afterRead_none,
        bitsOf_emptyFrame]
    · rw [hread, endReadTransfer_read hr, LinkUnit.readEnded, drivenBits_cut, LinkState.afterRead_cut]
      rfl

end Sys2Proof.Machine
end

section
/-! The engine's reference periods (R114, R130, R135, R136): the lines of the target bus, and how far an
access has come. -/

namespace Sys2Proof.Machine

/-! ### The lines of the target bus -/

/-- R114: the words of a burst ascend and wrap inside its block. -/
theorem toNat_burstWord (b : Burst) (a : Addr) (k : Nat) : (burstWord b a k).toNat =
    a.toNat / (4 * b.words) * (4 * b.words) +
      (a.toNat - a.toNat / (4 * b.words) * (4 * b.words) + 4 * k) % (4 * b.words) := by
  have hlt := a.isLt
  rw [burstWord, BitVec.toNat_ofNat, blockBase]
  cases b
  all_goals
    simp only [Burst.words]
    omega

/-- The engine's lines for an access of this target, at this address, with the words that a write drives. -/
structure Lines (s : State) (c : Current) (t : TargetIx) (a : Addr) (words : Nat) (data : List Word) : Prop where
  tcs : ∀ u, s.tcsLow u = true ↔ u = t ∧ ∀ b, c.phase ≠ .ending b
  twr : s.twr = true ↔ c.holding = .write
  inWord : ∀ w n, c.phase = .word w n →
    s.ta = some (BitVec.ofNat 24 (a.toNat / (4 * words) * (4 * words) +
      (a.toNat - a.toNat / (4 * words) * (4 * words) + 4 * c.taken) % (4 * words) - 4096 * c.base)) ∧
    s.td = data[c.taken]?
  outside : (∀ w n, c.phase ≠ .word w n) → s.ta = none ∧ s.td = none

theorem Phase.selected_iff (k : Phase) : k.selected = true ↔ ∀ b, k ≠ .ending b := by
  cases k <;> simp [selected]

theorem Phase.inWord_eq_false {k : Phase} (h : ∀ w n, k ≠ .word w n) : k.inWord = false := by
  cases k with
  | word w n => exact absurd rfl (h w n)
  | _ => rfl

section
variable {s : State} {c : Current}

theorem ta_of_notInWord (hc : s.current = some c) (h : ∀ w n, c.phase ≠ .word w n) :
    s.ta = none ∧ s.td = none := by
  simp [State.ta, State.td, hc, Phase.inWord_eq_false h]

/-- R135: the lines that an access drives follow from its target, its address and its words. -/
theorem lines_of {t : TargetIx} {a : Addr} {b : Burst} {data : List Word} (hc : s.current = some c)
    (ht : s.holdingTarget c.holding = some t) (ha : s.holdingAddress c.holding = some (a, b))
    (hd : c.phase.inWord = true → s.td = data[c.taken]?) : Lines s c t a b.words data where
  tcs u := by
    rw [State.tcsLow, hc]
    simp only [ht, Bool.and_eq_true, Phase.selected_iff, beq_iff_eq, Option.some.injEq]
    exact ⟨fun h => ⟨h.2.symm, h.1⟩, fun h => ⟨h.2, h.1.symm⟩⟩
  twr := by rw [State.twr, hc]; exact beq_iff_eq
  inWord w n hk := by
    have hin : c.phase.inWord = true := by rw [hk]; rfl
    refine ⟨?_, hd hin⟩
    rw [State.ta, hc]
    dsimp only
    rw [if_pos hin, ha, Option.map_some, targetOffset, toNat_burstWord]
  outside := ta_of_notInWord hc

theorem td_of_notWrite (hc : s.current = some c) (h : c.holding ≠ .write) : s.td = none := by
  simp [State.td, hc, h]

theorem td_of_write {w : PostedWrite} {rest : List PostedWrite} (hc : s.current = some c)
    (h : c.holding = .write) (hq : s.queue = w :: rest) (hin : c.phase.inWord = true) :
    s.td = w.data[c.taken]? := by
  simp [State.td, hc, h, hin, hq]

end

/-! ### How far an access has come -/

/-- R135: from `s`, where `c` is current, the engine has come to `u`: `n` words have been taken, and the
access is in phase `k`. -/
structure AccessAt (s : State) (c : Current) (n : Nat) (k : Phase) (u : State) : Prop where
  current : u.current = some { c with taken := n, phase := k }
  keeps : KeepsAllBut [.current, .read, .probes] s u
  written : c.holding = .write → KeepsAllBut [.current] s u
  buffered : c.holding = .read → ∀ x, s.read = some x → ∃ b, b.length = n ∧
    u.read = some { x with buffer := x.buffer ++ b }
  captured : ∀ t, c.holding = .probe t → ∀ x, s.probe t = some x → ∃ y, u.probe t = some y ∧
    (1 ≤ n → y.captured ≠ none)

section
variable {s u : State} {c : Current} {n : Nat} {k : Phase}

theorem accessAt_start (hc : s.current = some c) (hn : c.taken = 0) (hk : c.phase = .setup) :
    AccessAt s c 0 .setup s where
  current := by rw [hc, ← hn, ← hk]
  keeps := .refl _ s
  written _ := .refl _ s
  buffered _ x hx := ⟨[], rfl, by rw [hx, List.append_nil]⟩
  captured _ _ x hx := ⟨x, hx, nofun⟩

/-- A period that only moves the phase on. -/
theorem AccessAt.toPhase (h : AccessAt s c n k u) (k' : Phase) :
    AccessAt s c n k' { u with current := some { c with taken := n, phase := k' } } where
  current := rfl
  keeps := h.keeps.trans ((keeps_current u _).mono (by simp))
  written hw := (h.written hw).trans (keeps_current u _)
  buffered := h.buffered
  captured := h.captured

theorem AccessAt.words (h : AccessAt s c n k u) (hs : s.holds c.holding) :
    u.currentWords c.holding = s.currentWords c.holding := by
  cases hh : c.holding with
  | write =>
    have hq := (h.written hh).queue
    simp only [State.currentWords, hq]
  | read =>
    rw [hh] at hs
    obtain ⟨x, hx⟩ := Option.ne_none_iff_exists'.mp hs
    obtain ⟨b, -, hu⟩ := h.buffered hh x hx
    simp [State.currentWords, hx, hu]
  | probe t => rfl

/-- R135: the phase after a word has been taken. -/
def Current.phaseAfter (c : Current) (total n : Nat) : Phase :=
  if n < total then .word c.waitStates c.readyTimeout else .ending false

/-- R135: a word is taken and captured. -/
theorem AccessAt.take (h : AccessAt s c n k u) (hs : s.holds c.holding) (w : Word) :
    AccessAt s c (n + 1) (c.phaseAfter (s.currentWords c.holding) (n + 1))
      (takeWord { c with taken := n, phase := k } w u) where
  current := by
    unfold takeWord
    dsimp only
    rw [h.words hs]
    rfl
  keeps := h.keeps.trans ((takeWord_keeps _ w u).mono (by simp))
  written hw := by
    refine (h.written hw).trans ?_
    unfold takeWord
    dsimp only
    rw [hw]
    exact keeps_current u _
  buffered hr x hx := by
    obtain ⟨b, hb, hu⟩ := h.buffered hr x hx
    refine ⟨b ++ [w], by simp [hb], ?_⟩
    simp [takeWord, hr, capture, hu]
  captured t ht x hx := by
    obtain ⟨y, hy, -⟩ := h.captured t ht x hx
    refine ⟨{ y with captured := some w }, ?_, nofun⟩
    simp only [takeWord, ht, capture, hy]
    exact probe_setProbe_self u t _

end

/-! ### One period -/

section
variable {s u : State} {c : Current} {n m w : Nat}

theorem AccessAt.period_setup (h : AccessAt s c n .setup u) (trdy : Bool) (td : Word) :
    AccessAt s c n (.word c.waitStates c.readyTimeout) (enginePeriod trdy td u) := by
  rw [enginePeriod, h.current]
  exact h.toPhase _

theorem AccessAt.period_wait (h : AccessAt s c n (.word (w + 1) m) u) (trdy : Bool) (td : Word) :
    AccessAt s c n (.word w m) (enginePeriod trdy td u) := by
  rw [enginePeriod, h.current]
  exact h.toPhase _

/-- R135: a sample that finds TRDY high takes the word. -/
theorem AccessAt.period_taken (h : AccessAt s c n (.word 0 m) u) (hs : s.holds c.holding) (td : Word) :
    AccessAt s c (n + 1) (c.phaseAfter (s.currentWords c.holding) (n + 1)) (enginePeriod true td u) := by
  rw [enginePeriod, h.current]
  exact h.take hs td

/-- R136: a sample that finds TRDY low is one of the samples that are left. -/
theorem AccessAt.period_missed (h : AccessAt s c n (.word 0 m) u) (td : Word) :
    AccessAt s c n (if m ≤ 1 then .ending true else .word 0 (m - 1)) (enginePeriod false td u) := by
  rw [enginePeriod, h.current]
  dsimp only
  by_cases hm : m ≤ 1
  · rw [if_pos hm, if_pos hm]
    exact h.toPhase _
  · rw [if_neg hm, if_neg hm]
    exact h.toPhase _

end

end Sys2Proof.Machine
end

section
/-! An access from its setup to its end (R135, R136). -/

namespace Sys2Proof.Machine

section
variable {s u : State} {c : Current} {n m w : Nat}

/-! ### TRDY high, and TRDY low -/

theorem AccessAt.iterate_wait (h : AccessAt s c n (.word w m) u) (trdy : Bool) (td : Word) :
    AccessAt s c n (.word 0 m) ((enginePeriod trdy td)^[w] u) := by
  induction w generalizing u with
  | zero => exact h
  | succ w ih => exact ih (h.period_wait trdy td)

/-- R135: with TRDY high a word takes its wait states and one sample. -/
theorem AccessAt.iterate_word (h : AccessAt s c n (.word w m) u) (hs : s.holds c.holding) (td : Word) :
    AccessAt s c (n + 1) (c.phaseAfter (s.currentWords c.holding) (n + 1))
      ((enginePeriod true td)^[w + 1] u) := by
  rw [Function.iterate_succ_apply']
  exact (h.iterate_wait true td).period_taken hs td

/-- R135: with TRDY high the words that are left take their wait states and one sample each. -/
theorem AccessAt.iterate_words {r : Nat} (h : AccessAt s c n (.word c.waitStates c.readyTimeout) u)
    (hs : s.holds c.holding) (htotal : s.currentWords c.holding = n + 1 + r) (td : Word) :
    AccessAt s c (n + 1 + r) (.ending false) ((enginePeriod true td)^[(r + 1) * (c.waitStates + 1)] u) := by
  induction r generalizing n u with
  | zero =>
    have hword := h.iterate_word hs td
    rw [Current.phaseAfter, if_neg (by omega)] at hword
    simpa using hword
  | succ r ih =>
    have hword := h.iterate_word hs td
    rw [Current.phaseAfter, if_pos (by omega)] at hword
    have hrest := ih hword (by omega)
    rw [← Function.iterate_add_apply, ← Nat.succ_mul] at hrest
    rwa [show n + 1 + (r + 1) = n + 1 + 1 + r by omega]

/-- R136: with TRDY low every sample is missed, and nothing is captured. -/
theorem iterate_missed (s : State) (c : Current) {m : Nat} (hm : 1 ≤ m) (td : Word) :
    (enginePeriod false td)^[m] { s with current := some { c with phase := .word 0 m } } =
      { s with current := some { c with phase := .ending true } } := by
  induction m with
  | zero => omega
  | succ m ih =>
    rw [Function.iterate_succ_apply]
    rcases Nat.eq_zero_or_pos m with rfl | hpos
    · rfl
    · rw [← ih hpos]
      have hperiod : enginePeriod false td { s with current := some { c with phase := .word 0 (m + 1) } } =
          { s with current := some { c with phase := .word 0 m } } := by
        simp only [enginePeriod, Bool.false_eq_true, if_false]
        rw [if_neg (by omega), Nat.add_sub_cancel]
      rw [hperiod]

theorem iterate_waited (s : State) (c : Current) (w m : Nat) (td : Word) :
    (enginePeriod false td)^[w] { s with current := some { c with phase := .word w m } } =
      { s with current := some { c with phase := .word 0 m } } := by
  induction w with
  | zero => rfl
  | succ w ih => exact ih

/-! ### Any levels of TRDY -/

/-- R136: how an access from `s` has ended at `u`, after `k` periods: its words are taken, each with its
wait states, or a word has timed out after those before it. -/
structure EndsAt (s : State) (c : Current) (k n : Nat) (late : Bool) (u : State) : Prop where
  at_end : AccessAt s c n (.ending late) u
  completed : late = false → n = s.currentWords c.holding ∧
    1 + s.currentWords c.holding * (c.waitStates + 1) ≤ k
  timedOut : late = true → n < s.currentWords c.holding ∧
    1 + n * (c.waitStates + 1) + c.waitStates + c.readyTimeout ≤ k

theorem enginePeriods_cons (x : Bool × Word) (inputs : List (Bool × Word)) (u : State) :
    enginePeriods (x :: inputs) u = enginePeriods inputs (enginePeriod x.1 x.2 u) := rfl

/-- R135, R136: an access in a word ends within the periods that its wait states and samples leave it. `e`
periods have passed, in which the words before took their wait states and one sample at least. -/
theorem AccessAt.ends {e r : Nat} {inputs : List (Bool × Word)} (h : AccessAt s c n (.word w m) u)
    (hs : s.holds c.holding) (htotal : s.currentWords c.holding = n + 1 + r)
    (hw : w ≤ c.waitStates) (hm : 1 ≤ m) (hmr : m ≤ c.readyTimeout)
    (he : 1 + n * (c.waitStates + 1) + (c.waitStates - w) + (c.readyTimeout - m) ≤ e)
    (hlen : w + m + r * (c.waitStates + c.readyTimeout) ≤ inputs.length) :
    ∃ k n' late v, k ≤ inputs.length ∧ enginePeriods (inputs.take k) u = v ∧ EndsAt s c (e + k) n' late v := by
  induction inputs generalizing n m w u e r with
  | nil => simp only [List.length_nil] at hlen; omega
  | cons x inputs ih =>
    obtain ⟨trdy, td⟩ := x
    rw [List.length_cons] at hlen
    have hlater : (∃ k n' late v, k ≤ inputs.length ∧
        enginePeriods (inputs.take k) (enginePeriod trdy td u) = v ∧ EndsAt s c (e + 1 + k) n' late v) →
        ∃ k n' late v, k ≤ ((trdy, td) :: inputs).length ∧
          enginePeriods (((trdy, td) :: inputs).take k) u = v ∧ EndsAt s c (e + k) n' late v := by
      rintro ⟨k, n', late, v, hk, hv, hend⟩
      refine ⟨k + 1, n', late, v, by simpa using hk, ?_, by rwa [show e + (k + 1) = e + 1 + k by omega]⟩
      rwa [List.take_succ_cons, enginePeriods_cons]
    have hnow : ∀ {n' late}, EndsAt s c (e + 1) n' late (enginePeriod trdy td u) →
        ∃ k n' late v, k ≤ ((trdy, td) :: inputs).length ∧
          enginePeriods (((trdy, td) :: inputs).take k) u = v ∧ EndsAt s c (e + k) n' late v :=
      fun hend => ⟨1, _, _, _, by simp, rfl, hend⟩
    cases w with
    | succ w =>
      exact hlater (ih (h.period_wait trdy td) htotal (by omega) hm hmr (by omega) (by omega))
    | zero =>
      have hmul : (n + 1) * (c.waitStates + 1) = n * (c.waitStates + 1) + (c.waitStates + 1) := Nat.succ_mul _ _
      cases trdy with
      | true =>
        have htaken := h.period_taken hs td
        cases r with
        | zero =>
          rw [Current.phaseAfter, if_neg (by omega)] at htaken
          exact hnow ⟨htaken, fun _ => ⟨by omega, by rw [htotal, Nat.add_zero]; omega⟩, nofun⟩
        | succ r =>
          rw [Current.phaseAfter, if_pos (by omega)] at htaken
          have hrest : (r + 1) * (c.waitStates + c.readyTimeout) =
              r * (c.waitStates + c.readyTimeout) + (c.waitStates + c.readyTimeout) := Nat.succ_mul _ _
          exact hlater (ih (r := r) htaken (by omega) le_rfl (by omega) le_rfl (by omega) (by omega))
      | false =>
        have hmissed := h.period_missed td
        by_cases hlast : m ≤ 1
        · rw [if_pos hlast] at hmissed
          exact hnow ⟨hmissed, nofun, fun _ => ⟨by omega, by omega⟩⟩
        · rw [if_neg hlast] at hmissed
          exact hlater (ih hmissed htotal (by omega) (by omega) (by omega) (by omega) (by omega))

/-! ### The end row -/

/-- R139 to R144: the row that ends the access in its end period is the period that ends it. -/
theorem EndsAt.exec_endRow {k : Nat} {late : Bool} (h : EndsAt s c k n late u) (hs : s.holds c.holding)
    (hpos : 1 ≤ s.currentWords c.holding) (hlive : s.resetLow = false)
    (hbuffer : ∀ x, s.read = some x → x.buffer = []) (trdy : Bool) (td : Word) :
    exec (endRow c.holding late) u = .next (enginePeriod trdy td u) := by
  have hcur := h.at_end.current
  have hlive' : u.resetLow = false := h.at_end.keeps.resetLow.trans hlive
  have hperiod : enginePeriod trdy td u = endCurrent { c with taken := n, phase := .ending late } late u := by
    rw [enginePeriod, hcur]
  have hwords := h.at_end.words hs
  rw [hperiod]
  cases hh : c.holding with
  | write =>
    rw [hh] at hs hwords
    obtain ⟨y, rest, hq⟩ := List.exists_cons_of_ne_nil hs
    have hq' : u.queue = y :: rest := (h.at_end.written hh).queue.trans hq
    have hy : s.currentWords c.holding = y.burst.words := by rw [hh, State.currentWords, hq]
    cases late with
    | false =>
      obtain ⟨hn, -⟩ := h.completed rfl
      refine (exec_writeCompletion hlive' hcur (by simp) hh hq').trans ?_
      simp [endCurrent, hn.trans hy]
    | true =>
      obtain ⟨hn, -⟩ := h.timedOut rfl
      refine (exec_writeTimeout (n := 0) hlive' hcur (by simp) (by simp) hh hq' (by simpa [← hy] using hn)).trans ?_
      simp [endCurrent]
  | read =>
    rw [hh] at hs
    obtain ⟨x, hx⟩ := Option.ne_none_iff_exists'.mp hs
    obtain ⟨b, hb, hu⟩ := h.at_end.buffered hh x hx
    rw [hbuffer x hx, List.nil_append] at hu
    have hxw : s.currentWords c.holding = x.burst.words := by rw [hh, State.currentWords, hx]
    cases late with
    | false =>
      obtain ⟨hn, -⟩ := h.completed rfl
      refine (exec_readCompletion (data := []) hlive' hcur (by simp) hh hu (by simp [hb, hn, hxw])).trans ?_
      simp [endCurrent, hu, hn.trans hxw]
    | true =>
      obtain ⟨hn, -⟩ := h.timedOut rfl
      refine (exec_readTimeout (n := 0) hlive' hcur (by simp) (by simp) hh hu (by simpa [← hxw] using hn)).trans ?_
      simp [endCurrent, hu]
  | probe t =>
    rw [hh] at hs
    obtain ⟨x, hx⟩ := Option.ne_none_iff_exists'.mp hs
    obtain ⟨y, hy, hcaptured⟩ := h.at_end.captured t hh x hx
    cases late with
    | false =>
      obtain ⟨hn, -⟩ := h.completed rfl
      obtain ⟨word, hword⟩ := Option.ne_none_iff_exists'.mp (hcaptured (hn ▸ hpos))
      refine (exec_probeCompletion hlive' hcur hh hy (by simp) 0).trans ?_
      simp [endCurrent, hy, hword]
    | true =>
      refine (exec_probeTimeout hlive' hcur hh (by simp)).trans ?_
      simp [endCurrent, hy]

end

/-! ### The reference periods of an access -/

section
variable {s : State} {c : Current}

theorem lines_holds (hc : s.current = some c) :
    (∀ w rest, c.holding = .write → s.queue = w :: rest → Lines s c w.target w.address w.burst.words w.data) ∧
    (∀ x, c.holding = .read → s.read = some x → Lines s c x.target x.address x.burst.words []) ∧
    ∀ t x, c.holding = .probe t → s.probe t = some x → Lines s c t x.address 1 [] := by
  refine ⟨fun w rest hh hq => lines_of hc ?_ ?_ (td_of_write hc hh hq), fun x hh hx => lines_of hc ?_ ?_ ?_,
    fun t x hh hx => lines_of (b := .w1) hc ?_ ?_ ?_⟩
  · simp [State.holdingTarget, hh, hq]
  · simp [State.holdingAddress, hh, hq]
  · simp [State.holdingTarget, hh, hx]
  · simp [State.holdingAddress, hh, hx]
  · exact fun _ => td_of_notWrite hc (by simp [hh])
  · simp [State.holdingTarget, hh]
  · simp [State.holdingAddress, hh, hx]
  · exact fun _ => td_of_notWrite hc (by simp [hh])

/-- R130: TCS is low at one target at most. -/
theorem tcsLow_unique {t u : TargetIx} (ht : s.tcsLow t = true) (hu : s.tcsLow u = true) : t = u := by
  unfold State.tcsLow at ht hu
  cases hc : s.current with
  | none => simp [hc] at ht
  | some c =>
    simp only [hc, Bool.and_eq_true, beq_iff_eq] at ht hu
    exact Option.some.inj (ht.2.symm.trans hu.2)

end

/-- Settles O56: an access runs through its setup, its words and its end period. -/
theorem accessRunsInReferencePeriods : Obligations.AccessRunsInReferencePeriods := by
  refine ⟨fun s hc => ⟨fun t => by rw [State.tcsLow, hc], by rw [State.twr, hc], by rw [State.td, hc],
    by rw [State.ta, hc]⟩, fun s t u ht hu => tcsLow_unique ht hu, fun s c hc => ?_,
    fun s c td hc hsetup hzero hpos hs => ?_⟩
  · intro lines
    have hlines : ∀ {t a words data}, Lines s c t a words data → lines t a words data :=
      fun h => ⟨h.tcs, h.twr, h.inWord, h.outside⟩
    obtain ⟨hwrite, hread, hprobe⟩ := lines_holds hc
    exact ⟨fun w rest hh hq => hlines (hwrite w rest hh hq), fun x hh hx => hlines (hread x hh hx),
      fun t x hh hx => hlines (hprobe t x hh hx)⟩
  · intro total
    have hstart := (accessAt_start hc hzero hsetup)
    obtain ⟨r, hr⟩ : ∃ r, s.currentWords c.holding = 0 + 1 + r := ⟨s.currentWords c.holding - 1, by omega⟩
    refine ⟨?_, fun hready => ?_, fun hready hlive hbuffer inputs hlen => ?_⟩
    · have hend := (hstart.period_setup true td).iterate_words hs hr td
      rw [← Function.iterate_succ_apply, Nat.succ_eq_one_add, Nat.add_comm r 1, ← Nat.zero_add 1, ← hr] at hend
      exact ⟨_, rfl, hend.current, hend.keeps, hend.written⟩
    · have hfirst : enginePeriod false td s =
          { s with current := some { c with phase := .word c.waitStates c.readyTimeout } } := by
        rw [enginePeriod, hc]
        dsimp only
        rw [hsetup]
      rw [show 1 + c.waitStates + c.readyTimeout = c.readyTimeout + (c.waitStates + 1) by omega,
        Function.iterate_add_apply, Function.iterate_succ_apply, hfirst, iterate_waited,
        iterate_missed s c hready]
    · cases inputs with
      | nil => rw [List.length_nil] at hlen; omega
      | cons x inputs =>
        have hmul : (1 + r) * (c.waitStates + c.readyTimeout) =
            c.waitStates + c.readyTimeout + r * (c.waitStates + c.readyTimeout) := by
          rw [Nat.add_mul, Nat.one_mul]
        have hwords : total = 1 + r := by omega
        rw [List.length_cons, hwords, hmul] at hlen
        obtain ⟨k, n, late, v, hk, hv, hend⟩ := (hstart.period_setup x.1 x.2).ends (e := 1) (inputs := inputs)
          hs hr le_rfl hready le_rfl (by simp) (by omega)
        refine ⟨k + 1, n, late, v, by simpa using hk, ?_, hend.at_end.current, hend.at_end.keeps, fun hl => ?_,
          fun hl => ?_, hend.exec_endRow hs hpos hlive hbuffer⟩
        · rwa [List.take_succ_cons, enginePeriods_cons]
        · obtain ⟨hn, hbound⟩ := hend.completed hl
          exact ⟨hn, by rwa [Nat.add_comm k 1]⟩
        · obtain ⟨hn, hbound⟩ := hend.timedOut hl
          exact ⟨hn, by rwa [Nat.add_comm k 1]⟩

end Sys2Proof.Machine
end
